-- ==== Sys2Proof/Word.lean ====
section
/-! DEFINITION. The bit vectors of the hardware (00_scope R6, 10_state R22, R27, R28, 30_encoding R90). -/

namespace Sys2Proof

/-- A Word: 8 bits, numbered 7 down to 0, the quantum of the transport (R90). -/
abbrev Word := BitVec 8

/-- A bit position in the value buffer: 11 bits (R27, decision D23). -/
abbrev Offset := BitVec 11

/-- A bit counter of SerialEngine: 3 bits (R22, R23). -/
abbrev BitCount := BitVec 3

/-- The value buffer and every window of it: 64 bits, `VALUE_CAP` = 8 bytes (R28, decision D12). -/
abbrev Value := BitVec 64

end Sys2Proof
end

