-- ==== Sys2Proof/Config.lean ====
section
/-! DEFINITION. What an implementation fixes (00_scope R5, R32) and the free values (`draw`, R7). Every parameter
the spec leaves OPEN is an opaque constant: no proof can see its value. -/

namespace Sys2Proof

/-- How a peripheral reads the pattern of its register (R10 RegisterEntry, R187, decision D28). -/
inductive Signedness where
  | signed
  | unsigned
  | bitfield
deriving DecidableEq, Repr, Inhabited

/-- The direction field of a RegisterEntry (R32). -/
inductive Direction where
  | readOnly
  | writeOnly
  | readWrite
deriving DecidableEq, Repr

/-- `readable(e)` of R180. -/
def Direction.readable : Direction → Bool
  | .readOnly => true
  | .writeOnly => false
  | .readWrite => true

/-- `writable(e)` of R180. -/
def Direction.writable : Direction → Bool
  | .readOnly => false
  | .writeOnly => true
  | .readWrite => true

/-- What stands behind a listed key: the accessor field of its RegisterEntry (R32), one name per register of
43_register_map R211 to R263. -/
inductive Accessor where
  | odoCount1 | odoCount2 | odoCount3 | odoCount4 | odoCount5 | odoCount6
  | odoSpeed1 | odoSpeed2 | odoSpeed3 | odoSpeed4 | odoSpeed5 | odoSpeed6
  | extPort1 | extPort2 | extPort3 | extPort4 | extPort5 | extPort6 | extPort7
  | diagConst
  | diag1 | diag2 | diag3 | diag4 | diag5 | diag6
  | resetPulse
  | ledGreen | ledB | ledC
  | motor1 | motor2 | motor3 | motor4 | motor5 | motor6 | motor7 | motor8
  | servo1 | servo2 | servo3 | servo4 | servo5 | servo6 | servo7 | servo8
  | ctrl1 | ctrl2 | ctrl3 | ctrl4 | ctrl5 | ctrl6 | ctrl7
  /-- an entry that the platform added under an unlisted key (R266) -/
  | platform
deriving DecidableEq, Repr

/-- A RegisterEntry of the table `T` (R32). `width` is `width_bits`; the reset entry has no width (R237) and
carries 0 (log 22). -/
structure Entry where
  width : Nat
  signedness : Signedness
  direction : Direction
  accessor : Accessor
deriving DecidableEq, Repr

/-- The places where the spec writes `draw` or *unspecified* (R7, R41): a free value is drawn for one of them. -/
inductive Site where
  /-- the pattern of the register behind a key (R41, R195) -/
  | register (key : Word)
  /-- the Word of a slot for which nothing was submitted (R124, R133) -/
  | idleSlot
  /-- `link_out` after `Deselect`, and after reset (R126, R133, R41) -/
  | linkOut
  /-- a value byte read from an offset at or above 64 (R103, R151) -/
  | overrun
  /-- `global_reset` after a write to the reset key of more than 8 bytes (R195, U3) -/
  | pulse
  | rxShift
  | rxWord
  | txShift
  | txPending
  | frameKey
  | frameLength
  | valueBuffer
deriving DecidableEq, Repr

namespace Config

/-- The `n`-th draw, made at `site`, `w` bits wide: any value (R7 `draw`; U3, U4, U5; log 6). -/
opaque draw (site : Site) (n : Nat) (w : Nat) : BitVec w

/-- What an element holds after power-on where the spec says *unspecified* (R41, R42, U9): any value (log 3).
DESIGN CHOICE, unsafe: one value for every run. -/
opaque powerOn (site : Site) (w : Nat) : BitVec w

/-- OPEN (D20): `W_MOTOR`, less one; the spec bounds it by 1 ≤ `W_MOTOR` ≤ 16 (R5). -/
opaque motorWidthCode : Fin 16
/-- OPEN (D20): `W_ODO_COUNT`, less one; a width is 1 to 65535 (R32). -/
opaque odoCountWidthCode : Fin 65535
/-- OPEN (D20): `W_ODO_SPEED`, less one. -/
opaque odoSpeedWidthCode : Fin 65535
/-- OPEN (D20): `W_DIAG[i]`, less one, for `i` = 1 to 6. -/
opaque diagWidthCode (i : Nat) : Fin 65535
/-- OPEN (D20): `W_CTRL[i]`, less one, for `i` = 1 to 7. -/
opaque ctrlWidthCode (i : Nat) : Fin 65535

/-- `W_MOTOR` (R5). -/
def wMotor : Nat := motorWidthCode.val + 1
/-- `W_ODO_COUNT` (R5). -/
def wOdoCount : Nat := odoCountWidthCode.val + 1
/-- `W_ODO_SPEED` (R5). -/
def wOdoSpeed : Nat := odoSpeedWidthCode.val + 1
/-- `W_DIAG[i]` (R5). -/
def wDiag (i : Nat) : Nat := (diagWidthCode i).val + 1
/-- `W_CTRL[i]` (R5). -/
def wCtrl (i : Nat) : Nat := (ctrlWidthCode i).val + 1

/-- OPEN (D20): `S_ODO_COUNT`. -/
opaque sOdoCount : Signedness
/-- OPEN (D20): `S_ODO_SPEED`. -/
opaque sOdoSpeed : Signedness
/-- OPEN (D20): `S_DIAG[i]`. -/
opaque sDiag (i : Nat) : Signedness
/-- OPEN (D20): `S_CTRL[i]`. -/
opaque sCtrl (i : Nat) : Signedness

/-- OPEN (D18): `RESET_LOOPBACK`, whether `global_reset` also resets this core (R315; log 9). -/
opaque resetLoopback : Bool

/-- `SENTINEL`: what a read that misses returns (R5, R182). -/
def sentinel : Value := 0xDEADBEEFBAADF00D#64

/-- `DIAG_CONST`: the value of key 0x42, 32 bits (R5, R230). -/
def diagConst : BitVec 32 := 0xDEADC0DE#32

/-- `VALUE_CAP` in bytes (R5, decision D12). -/
def valueCap : Nat := 8

/-- An edge of the link clock. -/
inductive Edge where
  | rising
  | falling
deriving DecidableEq, Repr

/-- The arguments of `configure(width, mode)` (R120). -/
structure LinkMode where
  width : Nat
  idleHigh : Bool
  sample : Edge
  drive : Edge
deriving DecidableEq, Repr

/-- The one configuration this hardware is built with: width 8, clock idle low, sample on the falling edge, drive on
the rising edge (R5, R120). -/
def linkMode : LinkMode :=
  { width := 8, idleHigh := false, sample := .falling, drive := .rising }

/-- `configure` fails fast for every other configuration: no machine is built for it (R120, decision D30, U13). -/
def configure (m : LinkMode) : Option LinkMode :=
  if m = linkMode then some m else none

end Config

end Sys2Proof
end

