-- ==== Sys2Proof/Syntax.lean ====
section
/-! DEFINITION. The instructions: the KLV frames of the wire protocol, one constructor per row of
spec/opcode_table.json (30_encoding R91, R99). A read frame (RFRAME, R94) carries its length byte; a write frame
(WFRAME, R95) carries its value bytes in wire order, first received first, and its length byte is their number; the
two default rows carry the key as well. -/

namespace Sys2Proof

/-- A frame sent by the host (R91). -/
inductive Instr where
  /-- `RD.ODO_COUNT1`, key 0x11 (R211) -/
  | rdOdoCount1 (len : Word)
  /-- `RD.ODO_COUNT2`, key 0x12 (R212) -/
  | rdOdoCount2 (len : Word)
  /-- `RD.ODO_COUNT3`, key 0x13 (R213) -/
  | rdOdoCount3 (len : Word)
  /-- `RD.ODO_COUNT4`, key 0x14 (R214) -/
  | rdOdoCount4 (len : Word)
  /-- `RD.ODO_COUNT5`, key 0x15 (R215) -/
  | rdOdoCount5 (len : Word)
  /-- `RD.ODO_COUNT6`, key 0x16 (R216) -/
  | rdOdoCount6 (len : Word)
  /-- `RD.ODO_SPEED1`, key 0x21 (R217) -/
  | rdOdoSpeed1 (len : Word)
  /-- `RD.ODO_SPEED2`, key 0x22 (R218) -/
  | rdOdoSpeed2 (len : Word)
  /-- `RD.ODO_SPEED3`, key 0x23 (R219) -/
  | rdOdoSpeed3 (len : Word)
  /-- `RD.ODO_SPEED4`, key 0x24 (R220) -/
  | rdOdoSpeed4 (len : Word)
  /-- `RD.ODO_SPEED5`, key 0x25 (R221) -/
  | rdOdoSpeed5 (len : Word)
  /-- `RD.ODO_SPEED6`, key 0x26 (R222) -/
  | rdOdoSpeed6 (len : Word)
  /-- `RD.EXT_PORT1`, key 0x31 (R223) -/
  | rdExtPort1 (len : Word)
  /-- `RD.EXT_PORT2`, key 0x32 (R224) -/
  | rdExtPort2 (len : Word)
  /-- `RD.EXT_PORT3`, key 0x33 (R225) -/
  | rdExtPort3 (len : Word)
  /-- `RD.EXT_PORT4`, key 0x34 (R226) -/
  | rdExtPort4 (len : Word)
  /-- `RD.EXT_PORT5`, key 0x35 (R227) -/
  | rdExtPort5 (len : Word)
  /-- `RD.EXT_PORT6`, key 0x36 (R228) -/
  | rdExtPort6 (len : Word)
  /-- `RD.EXT_PORT7`, key 0x37 (R229) -/
  | rdExtPort7 (len : Word)
  /-- `RD.DIAG_CONST`, key 0x42 (R230) -/
  | rdDiagConst (len : Word)
  /-- `RD.DIAG1`, key 0x71 (R231) -/
  | rdDiag1 (len : Word)
  /-- `RD.DIAG2`, key 0x72 (R232) -/
  | rdDiag2 (len : Word)
  /-- `RD.DIAG3`, key 0x73 (R233) -/
  | rdDiag3 (len : Word)
  /-- `RD.DIAG4`, key 0x74 (R234) -/
  | rdDiag4 (len : Word)
  /-- `RD.DIAG5`, key 0x75 (R235) -/
  | rdDiag5 (len : Word)
  /-- `RD.DIAG6`, key 0x76 (R236) -/
  | rdDiag6 (len : Word)
  /-- `WR.RESET`, key 0x81 (R237) -/
  | wrReset (value : List Word)
  /-- `WR.LED_GREEN`, key 0x82 (R238) -/
  | wrLedGreen (value : List Word)
  /-- `WR.LED_B`, key 0x83 (R239) -/
  | wrLedB (value : List Word)
  /-- `WR.LED_C`, key 0x84 (R240) -/
  | wrLedC (value : List Word)
  /-- `WR.MOTOR1`, key 0x91 (R241) -/
  | wrMotor1 (value : List Word)
  /-- `WR.MOTOR2`, key 0x92 (R242) -/
  | wrMotor2 (value : List Word)
  /-- `WR.MOTOR3`, key 0x93 (R243) -/
  | wrMotor3 (value : List Word)
  /-- `WR.MOTOR4`, key 0x94 (R244) -/
  | wrMotor4 (value : List Word)
  /-- `WR.MOTOR5`, key 0x95 (R245) -/
  | wrMotor5 (value : List Word)
  /-- `WR.MOTOR6`, key 0x96 (R246) -/
  | wrMotor6 (value : List Word)
  /-- `WR.MOTOR7`, key 0x97 (R247) -/
  | wrMotor7 (value : List Word)
  /-- `WR.MOTOR8`, key 0x98 (R248) -/
  | wrMotor8 (value : List Word)
  /-- `WR.SERVO1`, key 0xA1 (R249) -/
  | wrServo1 (value : List Word)
  /-- `WR.SERVO2`, key 0xA2 (R250) -/
  | wrServo2 (value : List Word)
  /-- `WR.SERVO3`, key 0xA3 (R251) -/
  | wrServo3 (value : List Word)
  /-- `WR.SERVO4`, key 0xA4 (R252) -/
  | wrServo4 (value : List Word)
  /-- `WR.SERVO5`, key 0xA5 (R253) -/
  | wrServo5 (value : List Word)
  /-- `WR.SERVO6`, key 0xA6 (R254) -/
  | wrServo6 (value : List Word)
  /-- `WR.SERVO7`, key 0xA7 (R255) -/
  | wrServo7 (value : List Word)
  /-- `WR.SERVO8`, key 0xA8 (R256) -/
  | wrServo8 (value : List Word)
  /-- `WR.CTRL1`, key 0xB1 (R257) -/
  | wrCtrl1 (value : List Word)
  /-- `WR.CTRL2`, key 0xB2 (R258) -/
  | wrCtrl2 (value : List Word)
  /-- `WR.CTRL3`, key 0xB3 (R259) -/
  | wrCtrl3 (value : List Word)
  /-- `WR.CTRL4`, key 0xB4 (R260) -/
  | wrCtrl4 (value : List Word)
  /-- `WR.CTRL5`, key 0xB5 (R261) -/
  | wrCtrl5 (value : List Word)
  /-- `WR.CTRL6`, key 0xB6 (R262) -/
  | wrCtrl6 (value : List Word)
  /-- `WR.CTRL7`, key 0xB7 (R263) -/
  | wrCtrl7 (value : List Word)
  /-- `RD.UNKNOWN`, every other key with bit 7 = 0 (R264) -/
  | rdUnknown (key : Word) (len : Word)
  /-- `WR.UNKNOWN`, every other key with bit 7 = 1 (R265) -/
  | wrUnknown (key : Word) (value : List Word)
deriving DecidableEq, Repr

end Sys2Proof
end

