-- ==== Sys2Proof/Machine/State.lean ====
section
/-! DEFINITION. The state of the machine as plain data (10_state R20 to R34), its value after reset (R41), and the two
closed types of reasons to stop. -/

namespace Sys2Proof.Machine

/-- The five states of FrameDecoder, the spec's `state` (R25). -/
inductive Phase where
  | readKey
  | getReadLength
  | getWriteLength
  | masterRead
  | masterWrite
deriving DecidableEq, Repr

/-- The request event raised at the previous tick, the spec's `evt` (R30). -/
inductive Event where
  | none
  | readReq
  | writeDone
deriving DecidableEq, Repr

/-- What the outside world does next (R8): a link event of agent L (R121), the tick of agent T (R150), or a change that
agent P makes to what `get(k)` answers (R196). -/
inductive Input where
  | select
  | deselect
  | rise
  | fall (b : Bool)
  | tick
  /-- the peripheral behind key `k` now shows the pattern `v` (cut to the register's width) -/
  | periph (k : Word) (v : Nat)
deriving DecidableEq, Repr

/-- The register file `R[k]`: one pattern for every writable key of the map (R33), key 0x81 stores nothing. -/
structure Registers where
  /-- key 0x82 -/
  ledGreen : BitVec 1
  /-- key 0x83 -/
  ledB : BitVec 1
  /-- key 0x84 -/
  ledC : BitVec 1
  /-- key 0x91 -/
  motor1 : BitVec Config.wMotor
  /-- key 0x92 -/
  motor2 : BitVec Config.wMotor
  /-- key 0x93 -/
  motor3 : BitVec Config.wMotor
  /-- key 0x94 -/
  motor4 : BitVec Config.wMotor
  /-- key 0x95 -/
  motor5 : BitVec Config.wMotor
  /-- key 0x96 -/
  motor6 : BitVec Config.wMotor
  /-- key 0x97 -/
  motor7 : BitVec Config.wMotor
  /-- key 0x98 -/
  motor8 : BitVec Config.wMotor
  /-- key 0xA1 -/
  servo1 : BitVec 16
  /-- key 0xA2 -/
  servo2 : BitVec 16
  /-- key 0xA3 -/
  servo3 : BitVec 16
  /-- key 0xA4 -/
  servo4 : BitVec 16
  /-- key 0xA5 -/
  servo5 : BitVec 16
  /-- key 0xA6 -/
  servo6 : BitVec 16
  /-- key 0xA7 -/
  servo7 : BitVec 16
  /-- key 0xA8 -/
  servo8 : BitVec 16
  /-- key 0xB1 -/
  ctrl1 : BitVec (Config.wCtrl 1)
  /-- key 0xB2 -/
  ctrl2 : BitVec (Config.wCtrl 2)
  /-- key 0xB3 -/
  ctrl3 : BitVec (Config.wCtrl 3)
  /-- key 0xB4 -/
  ctrl4 : BitVec (Config.wCtrl 4)
  /-- key 0xB5 -/
  ctrl5 : BitVec (Config.wCtrl 5)
  /-- key 0xB6 -/
  ctrl6 : BitVec (Config.wCtrl 6)
  /-- key 0xB7 -/
  ctrl7 : BitVec (Config.wCtrl 7)
deriving DecidableEq, Repr

/-- What `get(k)` answers at present for every read-only key of the map but 0x42: inputs of the core, owned by the
peripherals (R20, R196). -/
structure Peripherals where
  /-- key 0x11 -/
  odoCount1 : BitVec Config.wOdoCount
  /-- key 0x12 -/
  odoCount2 : BitVec Config.wOdoCount
  /-- key 0x13 -/
  odoCount3 : BitVec Config.wOdoCount
  /-- key 0x14 -/
  odoCount4 : BitVec Config.wOdoCount
  /-- key 0x15 -/
  odoCount5 : BitVec Config.wOdoCount
  /-- key 0x16 -/
  odoCount6 : BitVec Config.wOdoCount
  /-- key 0x21 -/
  odoSpeed1 : BitVec Config.wOdoSpeed
  /-- key 0x22 -/
  odoSpeed2 : BitVec Config.wOdoSpeed
  /-- key 0x23 -/
  odoSpeed3 : BitVec Config.wOdoSpeed
  /-- key 0x24 -/
  odoSpeed4 : BitVec Config.wOdoSpeed
  /-- key 0x25 -/
  odoSpeed5 : BitVec Config.wOdoSpeed
  /-- key 0x26 -/
  odoSpeed6 : BitVec Config.wOdoSpeed
  /-- key 0x31 -/
  extPort1 : BitVec 8
  /-- key 0x32 -/
  extPort2 : BitVec 8
  /-- key 0x33 -/
  extPort3 : BitVec 8
  /-- key 0x34 -/
  extPort4 : BitVec 8
  /-- key 0x35 -/
  extPort5 : BitVec 8
  /-- key 0x36 -/
  extPort6 : BitVec 8
  /-- key 0x37 -/
  extPort7 : BitVec 8
  /-- key 0x71 -/
  diag1 : BitVec (Config.wDiag 1)
  /-- key 0x72 -/
  diag2 : BitVec (Config.wDiag 2)
  /-- key 0x73 -/
  diag3 : BitVec (Config.wDiag 3)
  /-- key 0x74 -/
  diag4 : BitVec (Config.wDiag 4)
  /-- key 0x75 -/
  diag5 : BitVec (Config.wDiag 5)
  /-- key 0x76 -/
  diag6 : BitVec (Config.wDiag 6)
deriving DecidableEq, Repr

/-- An entry that the platform added to the table under an unlisted key, with the pattern of its register (R32, R266;
log 10). Where `mirrors` names a key, the `get` accessor answers with the pattern of that key's register ("readable
under a different key", R72, R92). -/
structure PlatformEntry where
  key : Word
  width : Nat
  signedness : Signedness
  direction : Direction
  mirrors : Option Word
  pattern : Nat
deriving DecidableEq, Repr

/-- The whole machine. The field names follow the spec's (`phase` is its `state`). -/
structure State where
  /-- `link_desel`: 1 = the host has deselected the controller (R20, R21) -/
  linkDesel : Bool
  /-- `link_out`: the last bit driven (R20, R23) -/
  linkOut : Bool
  /-- the bits of the Word being assembled, newest in bit 0 (R22) -/
  rxShift : Word
  /-- the number of bits sampled of the current Word (R22) -/
  rxCnt : BitCount
  /-- the last completed Word (R22) -/
  rxWord : Word
  /-- the Word being sent, next bit in bit 7 (R23) -/
  txShift : Word
  /-- the number of bits driven of the current slot (R23) -/
  txCnt : BitCount
  /-- the one-Word transmit queue (R23) -/
  txPending : Word
  txPendingValid : Bool
  /-- the two ToggleFlags (R24) -/
  rxToggle : Bool
  txToggle : Bool
  /-- `state` of FrameDecoder (R25) -/
  phase : Phase
  /-- the first and second Word of the current frame (R26) -/
  key : Word
  length : Word
  /-- the bit position in `vbuf` of the byte being received or sent (R27) -/
  offset : Offset
  /-- the ValueBuffer (R28) -/
  vbuf : Value
  /-- FrameDecoder's last-observed ToggleFlags (R29) -/
  rxSeen : Bool
  txSeen : Bool
  /-- the request event to be serviced at the next tick (R30) -/
  evt : Event
  /-- the last value byte has been accepted (R31) -/
  rdLast : Bool
  /-- `global_reset` (R34) -/
  globalReset : Bool
  /-- `R[k]` (R33) -/
  regs : Registers
  /-- `get(k)` (R196) -/
  periph : Peripherals
  /-- the platform's further entries of the table (R266) -/
  platform : List PlatformEntry
  /-- the model's own: the events still to come (log 1) -/
  inputs : List Input
  /-- the model's own: the number of the next draw (log 6) -/
  draws : Nat
deriving DecidableEq, Repr

/-- The reasons to stop with a fault: none. "The hardware raises no synchronous exception. No frame, no key, no length
and no value can make it trap, halt, or report an error" (60_exceptions R280; 93_implementation_defined section 2). -/
inductive Fault where
deriving DecidableEq, Repr

/-- The reasons to refuse an instruction. -/
inductive Refusal where
  /-- raised by `exec` for an instruction that has no meaning yet; safe. No arm raises it now. -/
  | notModelled (mnemonic : String)
deriving DecidableEq, Repr

/-- The outcome of a step or of an instruction. -/
abbrev Result := Host.Outcome State Fault Refusal

/-- The register file whose every pattern is the value that `f` gives for its key and width. -/
def Registers.fill (f : (site : Site) → (w : Nat) → BitVec w) : Registers :=
  { ledGreen := f (.register 0x82#8) _
    ledB := f (.register 0x83#8) _
    ledC := f (.register 0x84#8) _
    motor1 := f (.register 0x91#8) _
    motor2 := f (.register 0x92#8) _
    motor3 := f (.register 0x93#8) _
    motor4 := f (.register 0x94#8) _
    motor5 := f (.register 0x95#8) _
    motor6 := f (.register 0x96#8) _
    motor7 := f (.register 0x97#8) _
    motor8 := f (.register 0x98#8) _
    servo1 := f (.register 0xA1#8) _
    servo2 := f (.register 0xA2#8) _
    servo3 := f (.register 0xA3#8) _
    servo4 := f (.register 0xA4#8) _
    servo5 := f (.register 0xA5#8) _
    servo6 := f (.register 0xA6#8) _
    servo7 := f (.register 0xA7#8) _
    servo8 := f (.register 0xA8#8) _
    ctrl1 := f (.register 0xB1#8) _
    ctrl2 := f (.register 0xB2#8) _
    ctrl3 := f (.register 0xB3#8) _
    ctrl4 := f (.register 0xB4#8) _
    ctrl5 := f (.register 0xB5#8) _
    ctrl6 := f (.register 0xB6#8) _
    ctrl7 := f (.register 0xB7#8) _ }

/-- `R[k]` after power-on: unspecified, so any value (R41, R42; log 3). -/
def Registers.reset : Registers := Registers.fill Config.powerOn

/-- `get(k)` at power-on: an input, so any value (R41, U10; log 3, log 11). -/
def Peripherals.reset : Peripherals :=
  { odoCount1 := Config.powerOn (.register 0x11#8) _
    odoCount2 := Config.powerOn (.register 0x12#8) _
    odoCount3 := Config.powerOn (.register 0x13#8) _
    odoCount4 := Config.powerOn (.register 0x14#8) _
    odoCount5 := Config.powerOn (.register 0x15#8) _
    odoCount6 := Config.powerOn (.register 0x16#8) _
    odoSpeed1 := Config.powerOn (.register 0x21#8) _
    odoSpeed2 := Config.powerOn (.register 0x22#8) _
    odoSpeed3 := Config.powerOn (.register 0x23#8) _
    odoSpeed4 := Config.powerOn (.register 0x24#8) _
    odoSpeed5 := Config.powerOn (.register 0x25#8) _
    odoSpeed6 := Config.powerOn (.register 0x26#8) _
    extPort1 := Config.powerOn (.register 0x31#8) _
    extPort2 := Config.powerOn (.register 0x32#8) _
    extPort3 := Config.powerOn (.register 0x33#8) _
    extPort4 := Config.powerOn (.register 0x34#8) _
    extPort5 := Config.powerOn (.register 0x35#8) _
    extPort6 := Config.powerOn (.register 0x36#8) _
    extPort7 := Config.powerOn (.register 0x37#8) _
    diag1 := Config.powerOn (.register 0x71#8) _
    diag2 := Config.powerOn (.register 0x72#8) _
    diag3 := Config.powerOn (.register 0x73#8) _
    diag4 := Config.powerOn (.register 0x74#8) _
    diag5 := Config.powerOn (.register 0x75#8) _
    diag6 := Config.powerOn (.register 0x76#8) _ }

/-- The machine right after reset (R41, R311): idle, no event pending, no flag showing work, every element the spec
leaves unspecified at a power-on constant (log 3), deselected (log 4), the default table (D31), no event to come
(log 1). -/
def State.reset : State :=
  { linkDesel := true
    linkOut := (Config.powerOn .linkOut 1).msb
    rxShift := Config.powerOn .rxShift 8
    rxCnt := 0#3
    rxWord := Config.powerOn .rxWord 8
    txShift := Config.powerOn .txShift 8
    txCnt := 0#3
    txPending := Config.powerOn .txPending 8
    txPendingValid := false
    rxToggle := false
    txToggle := false
    phase := .readKey
    key := Config.powerOn .frameKey 8
    length := Config.powerOn .frameLength 8
    offset := 0#11
    vbuf := Config.powerOn .valueBuffer 64
    rxSeen := false
    txSeen := false
    evt := .none
    rdLast := false
    globalReset := false
    regs := Registers.reset
    periph := Peripherals.reset
    platform := []
    inputs := []
    draws := 0 }

end Sys2Proof.Machine
end

