-- ==== Sys2Proof/Machine/Flags.lean ====
section
/-! DEFINITION. The flags and conditions of the hardware (10_state R36): it has no arithmetic condition codes. -/

namespace Sys2Proof.Machine

/-- `rx_new`: a received Word is pending (R29, R128). -/
def rxNew (s : State) : Bool := s.rxToggle != s.rxSeen

/-- `tx_new`: an acceptance is pending (R29, R129). -/
def txNew (s : State) : Bool := s.txToggle != s.txSeen

/-- A producer inverts its ToggleFlag once per completed unit of work (R24). -/
def inverted (toggle : Bool) : Bool := !toggle

/-- The direction bit `key[7]`: 1 = the host writes (R36, R92). -/
def isWriteKey (key : Word) : Bool := key.msb

end Sys2Proof.Machine
end

