-- ==== Sys2Proof/Machine/Operands.lean ====
section
/-! DEFINITION. The operands of frames: bytes and windows of the value buffer (20_memory R61 to R64, 30_encoding R96,
R97), the pattern a write leaves in a register (42_register_dispatch R186, R189, R190), the native reading of a pattern
(R187), and the table `T` of register entries (R32, R180). -/

namespace Sys2Proof.Machine

/-! ### Bits of a Word on the wire -/

/-- `{ v[6:0], b }`: the receive shift register after one more bit (R123). -/
def shiftIn (v : Word) (b : Bool) : Word := (v <<< 1) ||| (BitVec.ofBool b).setWidth 8

/-- `{ v[6:0], 0 }`: the transmit shift register after one bit has been driven (R124). -/
def shiftOut (v : Word) : Word := v <<< 1

/-! ### The value buffer -/

/-- `8·(w − 1)`: where the offset starts for a frame of `w` value bytes, `w ≥ 1` (R27, R163). -/
def offsetOf (w : Word) : Offset := 8#11 * (w.setWidth 11 - 1#11)

/-- `vbuf[o+7:o]` (R151 `vb`, for `o` below 64). -/
def byteAt (v : Value) (o : Nat) : Word := (v >>> o).setWidth 8

/-- `vbuf[o+7:o] <- b` (R155, for `o` below 64). -/
def putByte (v : Value) (o : Nat) (b : Word) : Value :=
  (v &&& ~~~(0xFF#64 <<< o)) ||| (b.setWidth 64 <<< o)

/-- `n = min(L, VALUE_CAP)`: the bytes of a window that the buffer holds (R181). -/
def windowBytes (L : Nat) : Nat := min L Config.valueCap

/-- The `8n` low bits, `n` at most 8. -/
def lowMask (n : Nat) : Value := BitVec.allOnes 64 >>> (64 - 8 * n)

/-- `vbuf[8n-1:0]`: the window of a frame of `L` bytes, extended with zeros (R28, R63). -/
def window (v : Value) (L : Nat) : Value := v &&& lowMask (windowBytes L)

/-- `vbuf[8n-1:0] <- x` (R193). -/
def putWindow (v : Value) (L : Nat) (x : Value) : Value :=
  (v &&& ~~~(lowMask (windowBytes L))) ||| window x L

/-- The value of bytes given in wire order, first received most significant (R62, R96). What lies above the 64 bits of
the buffer is not stored (R103, R155). -/
def valueOf (bytes : List Word) : Value :=
  bytes.foldl (fun acc b => (acc <<< 8) ||| b.setWidth 64) 0#64

/-- The `L` bytes of the window in wire order, most significant first (R62, R97). For `L` above 8 the bytes that the
buffer does not hold are given as 0; no meaning reads them (log 18). -/
def bytesOf (v : Value) : Nat → List Word
  | 0 => []
  | L + 1 => byteAt v (8 * L) :: bytesOf v L

/-! ### Patterns of registers -/

/-- The pattern of a `w`-bit register after a write of `L` bytes of value `v` (R186): a value as long as the register or
longer gives its low `w` bits (R190, no saturation, R197 (c)), a shorter one replaces the low `8·L` bits and keeps the
rest (R189, `SHORT_WRITE` = merge, decision D15). -/
def mergePattern {w : Nat} (old : BitVec w) (L : Nat) (v : Value) : BitVec w :=
  if w ≤ 8 * L then v.setWidth w
  else ((old >>> (8 * L)) <<< (8 * L)) ||| (v.setWidth (8 * L)).setWidth w

/-- What the peripheral receives: `signed_W(p)` for a signed register, the integer `p` or the bits otherwise (R6, R187,
R197 (d), decision D28). -/
def nativeValue {w : Nat} : Signedness → BitVec w → Int
  | .signed, p => p.toInt
  | .unsigned, p => p.toNat
  | .bitfield, p => p.toNat

/-! ### The table `T` -/

/-- A read-only entry. -/
def readEntry (width : Nat) (signedness : Signedness) (accessor : Accessor) : Entry :=
  { width := width, signedness := signedness, direction := .readOnly, accessor := accessor }

/-- A write-only entry. -/
def writeEntry (width : Nat) (signedness : Signedness) (accessor : Accessor) : Entry :=
  { width := width, signedness := signedness, direction := .writeOnly, accessor := accessor }

/-- The default table: the representative key map, 43_register_map R211 to R263, one rule per row (R32, R70). -/
def mapEntry (key : Word) : Option Entry :=
  match key with
  | 0x11#8 => some (readEntry Config.wOdoCount Config.sOdoCount .odoCount1)
  | 0x12#8 => some (readEntry Config.wOdoCount Config.sOdoCount .odoCount2)
  | 0x13#8 => some (readEntry Config.wOdoCount Config.sOdoCount .odoCount3)
  | 0x14#8 => some (readEntry Config.wOdoCount Config.sOdoCount .odoCount4)
  | 0x15#8 => some (readEntry Config.wOdoCount Config.sOdoCount .odoCount5)
  | 0x16#8 => some (readEntry Config.wOdoCount Config.sOdoCount .odoCount6)
  | 0x21#8 => some (readEntry Config.wOdoSpeed Config.sOdoSpeed .odoSpeed1)
  | 0x22#8 => some (readEntry Config.wOdoSpeed Config.sOdoSpeed .odoSpeed2)
  | 0x23#8 => some (readEntry Config.wOdoSpeed Config.sOdoSpeed .odoSpeed3)
  | 0x24#8 => some (readEntry Config.wOdoSpeed Config.sOdoSpeed .odoSpeed4)
  | 0x25#8 => some (readEntry Config.wOdoSpeed Config.sOdoSpeed .odoSpeed5)
  | 0x26#8 => some (readEntry Config.wOdoSpeed Config.sOdoSpeed .odoSpeed6)
  | 0x31#8 => some (readEntry 8 .bitfield .extPort1)
  | 0x32#8 => some (readEntry 8 .bitfield .extPort2)
  | 0x33#8 => some (readEntry 8 .bitfield .extPort3)
  | 0x34#8 => some (readEntry 8 .bitfield .extPort4)
  | 0x35#8 => some (readEntry 8 .bitfield .extPort5)
  | 0x36#8 => some (readEntry 8 .bitfield .extPort6)
  | 0x37#8 => some (readEntry 8 .bitfield .extPort7)
  | 0x42#8 => some (readEntry 32 .unsigned .diagConst)
  | 0x71#8 => some (readEntry (Config.wDiag 1) (Config.sDiag 1) .diag1)
  | 0x72#8 => some (readEntry (Config.wDiag 2) (Config.sDiag 2) .diag2)
  | 0x73#8 => some (readEntry (Config.wDiag 3) (Config.sDiag 3) .diag3)
  | 0x74#8 => some (readEntry (Config.wDiag 4) (Config.sDiag 4) .diag4)
  | 0x75#8 => some (readEntry (Config.wDiag 5) (Config.sDiag 5) .diag5)
  | 0x76#8 => some (readEntry (Config.wDiag 6) (Config.sDiag 6) .diag6)
  | 0x81#8 => some (writeEntry 0 .bitfield .resetPulse)
  | 0x82#8 => some (writeEntry 1 .bitfield .ledGreen)
  | 0x83#8 => some (writeEntry 1 .bitfield .ledB)
  | 0x84#8 => some (writeEntry 1 .bitfield .ledC)
  | 0x91#8 => some (writeEntry Config.wMotor .signed .motor1)
  | 0x92#8 => some (writeEntry Config.wMotor .signed .motor2)
  | 0x93#8 => some (writeEntry Config.wMotor .signed .motor3)
  | 0x94#8 => some (writeEntry Config.wMotor .signed .motor4)
  | 0x95#8 => some (writeEntry Config.wMotor .signed .motor5)
  | 0x96#8 => some (writeEntry Config.wMotor .signed .motor6)
  | 0x97#8 => some (writeEntry Config.wMotor .signed .motor7)
  | 0x98#8 => some (writeEntry Config.wMotor .signed .motor8)
  | 0xA1#8 => some (writeEntry 16 .unsigned .servo1)
  | 0xA2#8 => some (writeEntry 16 .unsigned .servo2)
  | 0xA3#8 => some (writeEntry 16 .unsigned .servo3)
  | 0xA4#8 => some (writeEntry 16 .unsigned .servo4)
  | 0xA5#8 => some (writeEntry 16 .unsigned .servo5)
  | 0xA6#8 => some (writeEntry 16 .unsigned .servo6)
  | 0xA7#8 => some (writeEntry 16 .unsigned .servo7)
  | 0xA8#8 => some (writeEntry 16 .unsigned .servo8)
  | 0xB1#8 => some (writeEntry (Config.wCtrl 1) (Config.sCtrl 1) .ctrl1)
  | 0xB2#8 => some (writeEntry (Config.wCtrl 2) (Config.sCtrl 2) .ctrl2)
  | 0xB3#8 => some (writeEntry (Config.wCtrl 3) (Config.sCtrl 3) .ctrl3)
  | 0xB4#8 => some (writeEntry (Config.wCtrl 4) (Config.sCtrl 4) .ctrl4)
  | 0xB5#8 => some (writeEntry (Config.wCtrl 5) (Config.sCtrl 5) .ctrl5)
  | 0xB6#8 => some (writeEntry (Config.wCtrl 6) (Config.sCtrl 6) .ctrl6)
  | 0xB7#8 => some (writeEntry (Config.wCtrl 7) (Config.sCtrl 7) .ctrl7)
  | _ => none

/-- The platform's entry under `key`, if it added one (R266). -/
def State.platformEntry (s : State) (key : Word) : Option PlatformEntry :=
  s.platform.find? (fun p => p.key == key)

/-- The table entry an added entry stands for. -/
def PlatformEntry.entry (p : PlatformEntry) : Entry :=
  { width := p.width, signedness := p.signedness, direction := p.direction, accessor := .platform }

/-- The lookup `T(key)` (R180): the map's rows, then the entries that the platform added under unlisted keys. -/
def State.entry (s : State) (key : Word) : Option Entry :=
  match mapEntry key with
  | some e => some e
  | none => (s.platformEntry key).map PlatformEntry.entry

/-! ### Reading a register -/

/-- The pattern of the map's register behind an accessor, extended with zeros to 64 bits or cut to its low 64 bits; only
these can reach a window (R181, R184). -/
def State.accessorValue (s : State) : Accessor → Value
  | .odoCount1 => s.periph.odoCount1.setWidth 64
  | .odoCount2 => s.periph.odoCount2.setWidth 64
  | .odoCount3 => s.periph.odoCount3.setWidth 64
  | .odoCount4 => s.periph.odoCount4.setWidth 64
  | .odoCount5 => s.periph.odoCount5.setWidth 64
  | .odoCount6 => s.periph.odoCount6.setWidth 64
  | .odoSpeed1 => s.periph.odoSpeed1.setWidth 64
  | .odoSpeed2 => s.periph.odoSpeed2.setWidth 64
  | .odoSpeed3 => s.periph.odoSpeed3.setWidth 64
  | .odoSpeed4 => s.periph.odoSpeed4.setWidth 64
  | .odoSpeed5 => s.periph.odoSpeed5.setWidth 64
  | .odoSpeed6 => s.periph.odoSpeed6.setWidth 64
  | .extPort1 => s.periph.extPort1.setWidth 64
  | .extPort2 => s.periph.extPort2.setWidth 64
  | .extPort3 => s.periph.extPort3.setWidth 64
  | .extPort4 => s.periph.extPort4.setWidth 64
  | .extPort5 => s.periph.extPort5.setWidth 64
  | .extPort6 => s.periph.extPort6.setWidth 64
  | .extPort7 => s.periph.extPort7.setWidth 64
  | .diag1 => s.periph.diag1.setWidth 64
  | .diag2 => s.periph.diag2.setWidth 64
  | .diag3 => s.periph.diag3.setWidth 64
  | .diag4 => s.periph.diag4.setWidth 64
  | .diag5 => s.periph.diag5.setWidth 64
  | .diag6 => s.periph.diag6.setWidth 64
  | .diagConst => Config.diagConst.setWidth 64
  | .resetPulse => 0#64
  | .ledGreen => s.regs.ledGreen.setWidth 64
  | .ledB => s.regs.ledB.setWidth 64
  | .ledC => s.regs.ledC.setWidth 64
  | .motor1 => s.regs.motor1.setWidth 64
  | .motor2 => s.regs.motor2.setWidth 64
  | .motor3 => s.regs.motor3.setWidth 64
  | .motor4 => s.regs.motor4.setWidth 64
  | .motor5 => s.regs.motor5.setWidth 64
  | .motor6 => s.regs.motor6.setWidth 64
  | .motor7 => s.regs.motor7.setWidth 64
  | .motor8 => s.regs.motor8.setWidth 64
  | .servo1 => s.regs.servo1.setWidth 64
  | .servo2 => s.regs.servo2.setWidth 64
  | .servo3 => s.regs.servo3.setWidth 64
  | .servo4 => s.regs.servo4.setWidth 64
  | .servo5 => s.regs.servo5.setWidth 64
  | .servo6 => s.regs.servo6.setWidth 64
  | .servo7 => s.regs.servo7.setWidth 64
  | .servo8 => s.regs.servo8.setWidth 64
  | .ctrl1 => s.regs.ctrl1.setWidth 64
  | .ctrl2 => s.regs.ctrl2.setWidth 64
  | .ctrl3 => s.regs.ctrl3.setWidth 64
  | .ctrl4 => s.regs.ctrl4.setWidth 64
  | .ctrl5 => s.regs.ctrl5.setWidth 64
  | .ctrl6 => s.regs.ctrl6.setWidth 64
  | .ctrl7 => s.regs.ctrl7.setWidth 64
  | .platform => 0#64

/-- The stored pattern of the register behind `key`, listed or added; 0 where nothing is stored. -/
def State.storedValue (s : State) (key : Word) : Value :=
  match mapEntry key with
  | some e => s.accessorValue e.accessor
  | none =>
    match s.platformEntry key with
    | some p => BitVec.ofNat 64 p.pattern
    | none => 0#64

/-- `get` of an added entry: its own pattern, or that of the register it mirrors, cut to its width (R196, R266). -/
def State.platformGet (s : State) (p : PlatformEntry) : Value :=
  match p.mirrors with
  | none => BitVec.ofNat 64 p.pattern
  | some key => (BitVec.setWidth p.width (s.storedValue key)).setWidth 64

/-- `get(key)` for an entry `e` of the table, as 64 bits (R181, R196). -/
def State.getValue (s : State) (key : Word) (e : Entry) : Value :=
  match e.accessor with
  | .platform =>
    match s.platformEntry key with
    | some p => s.platformGet p
    | none => 0#64
  | a => s.accessorValue a

/-! ### Changing a register -/

/-- The entry with its pattern replaced by what `f` makes of it. -/
def PlatformEntry.update (p : PlatformEntry) (f : (w : Nat) → BitVec w → BitVec w) : PlatformEntry :=
  { p with pattern := (f p.width (BitVec.ofNat p.width p.pattern)).toNat }

/-- The list with the entry under `key` updated. -/
def updatePlatform (key : Word) (f : (w : Nat) → BitVec w → BitVec w) : List PlatformEntry → List PlatformEntry
  | [] => []
  | p :: ps => (if p.key == key then p.update f else p) :: updatePlatform key f ps

/-- The register file with the writable register behind an accessor updated by `f` (R187); the
other accessors have no `R[k]` of the map (R33). -/
def Registers.update (r : Registers) (f : (w : Nat) → BitVec w → BitVec w) : Accessor → Registers
  | .ledGreen => { r with ledGreen := f _ r.ledGreen }
  | .ledB => { r with ledB := f _ r.ledB }
  | .ledC => { r with ledC := f _ r.ledC }
  | .motor1 => { r with motor1 := f _ r.motor1 }
  | .motor2 => { r with motor2 := f _ r.motor2 }
  | .motor3 => { r with motor3 := f _ r.motor3 }
  | .motor4 => { r with motor4 := f _ r.motor4 }
  | .motor5 => { r with motor5 := f _ r.motor5 }
  | .motor6 => { r with motor6 := f _ r.motor6 }
  | .motor7 => { r with motor7 := f _ r.motor7 }
  | .motor8 => { r with motor8 := f _ r.motor8 }
  | .servo1 => { r with servo1 := f _ r.servo1 }
  | .servo2 => { r with servo2 := f _ r.servo2 }
  | .servo3 => { r with servo3 := f _ r.servo3 }
  | .servo4 => { r with servo4 := f _ r.servo4 }
  | .servo5 => { r with servo5 := f _ r.servo5 }
  | .servo6 => { r with servo6 := f _ r.servo6 }
  | .servo7 => { r with servo7 := f _ r.servo7 }
  | .servo8 => { r with servo8 := f _ r.servo8 }
  | .ctrl1 => { r with ctrl1 := f _ r.ctrl1 }
  | .ctrl2 => { r with ctrl2 := f _ r.ctrl2 }
  | .ctrl3 => { r with ctrl3 := f _ r.ctrl3 }
  | .ctrl4 => { r with ctrl4 := f _ r.ctrl4 }
  | .ctrl5 => { r with ctrl5 := f _ r.ctrl5 }
  | .ctrl6 => { r with ctrl6 := f _ r.ctrl6 }
  | .ctrl7 => { r with ctrl7 := f _ r.ctrl7 }
  | _ => r

/-- What `get` answers, with the value behind a read-only accessor changed by its peripheral (R196); the
other accessors show nothing that a peripheral of the map owns (R33, R230). -/
def Peripherals.update (r : Peripherals) (f : (w : Nat) → BitVec w → BitVec w) : Accessor → Peripherals
  | .odoCount1 => { r with odoCount1 := f _ r.odoCount1 }
  | .odoCount2 => { r with odoCount2 := f _ r.odoCount2 }
  | .odoCount3 => { r with odoCount3 := f _ r.odoCount3 }
  | .odoCount4 => { r with odoCount4 := f _ r.odoCount4 }
  | .odoCount5 => { r with odoCount5 := f _ r.odoCount5 }
  | .odoCount6 => { r with odoCount6 := f _ r.odoCount6 }
  | .odoSpeed1 => { r with odoSpeed1 := f _ r.odoSpeed1 }
  | .odoSpeed2 => { r with odoSpeed2 := f _ r.odoSpeed2 }
  | .odoSpeed3 => { r with odoSpeed3 := f _ r.odoSpeed3 }
  | .odoSpeed4 => { r with odoSpeed4 := f _ r.odoSpeed4 }
  | .odoSpeed5 => { r with odoSpeed5 := f _ r.odoSpeed5 }
  | .odoSpeed6 => { r with odoSpeed6 := f _ r.odoSpeed6 }
  | .extPort1 => { r with extPort1 := f _ r.extPort1 }
  | .extPort2 => { r with extPort2 := f _ r.extPort2 }
  | .extPort3 => { r with extPort3 := f _ r.extPort3 }
  | .extPort4 => { r with extPort4 := f _ r.extPort4 }
  | .extPort5 => { r with extPort5 := f _ r.extPort5 }
  | .extPort6 => { r with extPort6 := f _ r.extPort6 }
  | .extPort7 => { r with extPort7 := f _ r.extPort7 }
  | .diag1 => { r with diag1 := f _ r.diag1 }
  | .diag2 => { r with diag2 := f _ r.diag2 }
  | .diag3 => { r with diag3 := f _ r.diag3 }
  | .diag4 => { r with diag4 := f _ r.diag4 }
  | .diag5 => { r with diag5 := f _ r.diag5 }
  | .diag6 => { r with diag6 := f _ r.diag6 }
  | _ => r

/-- `R[key] <- f(R[key])` for a writable entry `e` of the table (R187, R195). -/
def State.updateRegister (s : State) (key : Word) (e : Entry) (f : (w : Nat) → BitVec w → BitVec w) : State :=
  match e.accessor with
  | .platform => { s with platform := updatePlatform key f s.platform }
  | a => { s with regs := s.regs.update f a }

end Sys2Proof.Machine
end

