-- ==== Sys2Proof/Machine/Ops.lean ====
section
/-! DEFINITION. The named operations of the machine: draws (00_scope R7), `Submit` (40_serial_engine R125), cancellation
(41_frame_decoder R160, 60_exceptions R288), `MemRead`, `MemWrite` and `Service` (42_register_dispatch R181, R186, R193),
the service tick of a whole frame, the core's reset (70_reset_and_hazards R315) and a peripheral's change (R196). -/

namespace Sys2Proof.Machine

/-! ### Draws -/

/-- The next draw, at `site`, `w` bits wide (R7; log 6). -/
def drawn (s : State) (site : Site) (w : Nat) : BitVec w := Config.draw site s.draws w

/-- The state after a draw. -/
def spend (s : State) : State := { s with draws := s.draws + 1 }

/-! ### The transmit queue and the value buffer -/

/-- `Submit(w)` (R125): accepted only while selected; a Word still queued is overwritten (decision D4). -/
def submit (w : Word) (s : State) : State :=
  if s.linkDesel then s else { s with txPending := w, txPendingValid := true }

/-- `Submit(vb(o))` (R151): the byte of the buffer at `o`, or a draw where the buffer ends (R103, decision D12). -/
def submitAt (o : Offset) (s : State) : State :=
  if o.toNat < 64 then submit (byteAt s.vbuf o.toNat) s
  else submit (drawn s .overrun 8) (spend s)

/-! ### Deselection: the hardware's only trap -/

/-- What FrameDecoder does at a tick that finds `link_desel = 1` (R160, R288): back to `ReadKey`, the frame forgotten,
both seen-copies resynchronised; `key`, `length` and `vbuf` keep their values (decision D27). Nothing is saved; the
return is the next `Select` (R289, `onSelect`). -/
def cancelFrame (s : State) : State :=
  { s with
    phase := .readKey
    offset := 0#11
    evt := .none
    rdLast := false
    rxSeen := s.rxToggle
    txSeen := s.txToggle }

/-! ### The read multiplexer -/

/-- The value a read of `key` finds (R181): the register, where the table has a readable entry, else the sentinel
(R182). -/
def readValue (s : State) (key : Word) : Value :=
  match s.entry key with
  | none => Config.sentinel
  | some e => if e.direction.readable then s.getValue key e else Config.sentinel

/-- `MemRead(key, L)` (R181): the low `8n` bits of it, right-aligned, above a register's width zeros (R183 to R185,
`READ_FILL` = zero; log 12). -/
def memRead (s : State) (key : Word) (L : Nat) : Value := window (readValue s key) L

/-! ### The write decoder -/

/-- The pattern after a write of `L` bytes of value `v` (R186). Beyond `VALUE_CAP` the spec gives the register no
defined new value (R103, R195): any value (log 7). -/
def writtenPattern {w : Nat} (s : State) (key : Word) (L : Nat) (v : Value) (old : BitVec w) : BitVec w :=
  if Config.valueCap < L then drawn s (.register key) w else mergePattern old L v

/-- A write beyond `VALUE_CAP` has used a draw. -/
def spendOverlong (L : Nat) (s : State) : State :=
  { s with draws := if Config.valueCap < L then s.draws + 1 else s.draws }

/-- A write of `L` ≥ 1 bytes to the reset key (R192, R237): `global_reset` is 1 until the next tick; beyond `VALUE_CAP`
the spec makes no claim about it (U3): any value (log 7). -/
def pulseReset (L : Nat) (s : State) : State :=
  spendOverlong L
    { s with globalReset := if Config.valueCap < L then (drawn s .pulse 1).msb else true }

/-- `MemWrite(key, L, v)` (R186): nothing for an empty value (R191), an unknown or an unwritable key (R188); the pulse
for the reset entry; else the register's new pattern (R187, R189, R190). -/
def memWrite (key : Word) (L : Nat) (v : Value) (s : State) : State :=
  if L = 0 then s
  else
    match s.entry key with
    | none => s
    | some e =>
      if e.direction.writable then
        match e.accessor with
        | .resetPulse => pulseReset L s
        | _ => spendOverlong L (s.updateRegister key e (fun _ old => writtenPattern s key L v old))
      else s

/-! ### Service -/

/-- `Service`, part 1 of every tick (R193): the pending event is serviced whatever `link_desel` is, and `global_reset` is
0 unless a write to the reset key is serviced. -/
def service (s : State) : State :=
  match s.evt with
  | .none => { s with globalReset := false }
  | .readReq =>
    { s with
      vbuf := putWindow s.vbuf s.length.toNat (memRead s s.key s.length.toNat)
      globalReset := false }
  | .writeDone =>
    memWrite s.key s.length.toNat (window s.vbuf s.length.toNat) { s with globalReset := false }

/-! ### The service tick of a whole frame -/

/-- The service tick of the read frame `key, len` whose value is `x`: with `len` = 0 the decoder is back in `ReadKey`
and nothing was raised or sent (R102, R153); else the window is filled (R156, R193), the first value byte is submitted
and the decoder is in `MasterRead`, from where the rest goes out (R158). A deselected link cancels after the service
(R150, R290). -/
def readFrame (key len : Word) (x : Value) (s : State) : State :=
  if len = 0#8 then
    if s.linkDesel then cancelFrame { s with key := key, length := len, globalReset := false }
    else { s with key := key, length := len, globalReset := false, evt := .none, phase := .readKey }
  else if s.linkDesel then
    cancelFrame
      { s with
        key := key, length := len, globalReset := false
        vbuf := putWindow s.vbuf len.toNat x }
  else
    submitAt (offsetOf len)
      { s with
        key := key, length := len, globalReset := false
        vbuf := putWindow s.vbuf len.toNat x
        offset := offsetOf len, evt := .none, phase := .masterRead, rdLast := false }

/-- The frame `key, value` as FrameDecoder has received it (R96, R154, R155), before it is serviced. -/
def received (key : Word) (value : List Word) (s : State) : State :=
  if value.length = 0 then
    { s with key := key, length := 0#8, globalReset := false }
  else
    { s with
      key := key, length := BitVec.ofNat 8 value.length, globalReset := false
      vbuf := putWindow s.vbuf value.length (valueOf value)
      offset := 0#11 }

/-- The end of a write frame: back to `ReadKey` (R157), or cancelled if the link was deselected meanwhile (R160). -/
def endWrite (s : State) : State :=
  if s.linkDesel then cancelFrame s else { s with evt := .none, phase := .readKey }

/-- The service tick of the write frame `key, value` whose effect on the registers and outputs is `effect`; an empty
value has none, whatever the key (R191). -/
def writeFrame (key : Word) (value : List Word) (effect : State → State) (s : State) : State :=
  if value.length = 0 then endWrite (received key value s)
  else endWrite (effect (received key value s))

/-- The new pattern of the register `old` behind `key` under the write frame `key, value` (R186). -/
def written {w : Nat} (s : State) (key : Word) (value : List Word) (old : BitVec w) : BitVec w :=
  writtenPattern s key value.length (valueOf value) old

/-- The register file becomes `regs` (R187). -/
def storeRegs (value : List Word) (regs : Registers) (s : State) : State :=
  spendOverlong value.length { s with regs := regs }

/-! ### The core's reset -/

/-- The tick that finds `global_reset = 1` where the platform feeds it back (R315, `RESET_LOOPBACK`; log 9): every
element returns to its value of R311, an unspecified one to a fresh draw. `link_desel` and what the peripherals show are
inputs and stay; the table is never mutated (R32). -/
def coreReset (s : State) : State :=
  { s with
    linkOut := (drawn s .linkOut 1).msb
    rxShift := drawn s .rxShift 8
    rxCnt := 0#3
    rxWord := drawn s .rxWord 8
    txShift := drawn s .txShift 8
    txCnt := 0#3
    txPending := drawn s .txPending 8
    txPendingValid := false
    rxToggle := false
    txToggle := false
    phase := .readKey
    key := drawn s .frameKey 8
    length := drawn s .frameLength 8
    offset := 0#11
    vbuf := drawn s .valueBuffer 64
    rxSeen := false
    txSeen := false
    evt := .none
    rdLast := false
    globalReset := false
    regs := Registers.fill (fun site w => Config.draw site s.draws w)
    platform := s.platform.map (fun p =>
      if p.direction.writable then p.update (fun w _ => drawn s (.register p.key) w) else p)
    draws := s.draws + 1 }

/-! ### The peripherals -/

/-- Agent P changes the pattern behind a readable key (R75, R196): for a write-only key, the constant 0x42 and a key with
no entry there is nothing to change (log 11). -/
def supply (key : Word) (v : Nat) (s : State) : State :=
  match s.entry key with
  | none => s
  | some e =>
    if e.direction.readable then
      match e.accessor with
      | .platform => { s with platform := updatePlatform key (fun w _ => BitVec.ofNat w v) s.platform }
      | a => { s with periph := s.periph.update (fun w _ => BitVec.ofNat w v) a }
    else s

end Sys2Proof.Machine
end

