-- ==== Sys2Proof/Machine/SerialEngine.lean ====
section
/-! DEFINITION. SerialEngine: what each link event of agent L does (40_serial_engine R121 to R127). `Submit`, the call
FrameDecoder makes into it, stands in Ops. -/

namespace Sys2Proof.Machine

/-- `Select` (R122). -/
def onSelect (s : State) : State := { s with linkDesel := false }

/-- `Fall(b)`, the sampling edge (R123): the eighth bit completes a Word and inverts the receive flag in the same step;
while deselected nothing changes (R127). -/
def onFall (b : Bool) (s : State) : State :=
  if s.linkDesel then s
  else if s.rxCnt = 7#3 then
    { s with
      rxShift := shiftIn s.rxShift b
      rxWord := shiftIn s.rxShift b
      rxToggle := inverted s.rxToggle
      rxCnt := 0#3 }
  else
    { s with rxShift := shiftIn s.rxShift b, rxCnt := s.rxCnt + 1#3 }

/-- The driving of one bit of the Word `cur` (R124). -/
def driveBit (cur : Word) (s : State) : State :=
  { s with linkOut := cur.msb, txShift := shiftOut cur, txCnt := s.txCnt + 1#3 }

/-- `Rise`, the driving edge (R124): the first bit of a slot latches the queued Word and inverts the transmit flag, or
draws eight bits if nothing was submitted (R133); while deselected nothing changes (R127). -/
def onRise (s : State) : State :=
  if s.linkDesel then s
  else if s.txCnt = 0#3 then
    if s.txPendingValid then
      driveBit s.txPending { s with txPendingValid := false, txToggle := inverted s.txToggle }
    else driveBit (drawn s .idleSlot 8) (spend s)
  else driveBit s.txShift s

/-- `Deselect` (R126): at once the bits of a partial Word are forgotten, the queued Word is dropped and `link_out` is a
draw (R133); neither flag changes. While deselected it changes nothing more (R126, R290; log 16). -/
def onDeselect (s : State) : State :=
  { s with
    linkDesel := true
    rxCnt := 0#3
    txCnt := 0#3
    txPendingValid := false
    linkOut := if s.linkDesel then s.linkOut else (drawn s .linkOut 1).msb
    draws := if s.linkDesel then s.draws else s.draws + 1 }

end Sys2Proof.Machine
end

