-- ==== Sys2Proof/Decode.lean ====
section
/-! DEFINITION. The decoder of frames and, after it, the encoder, both from the opcode map of 30_encoding R99 and the
formats of R94 and R95. -/

namespace Sys2Proof

/-- Why a string of Words is not (yet) a frame. -/
inductive DecodeError where
  /-- there is no Word: no key byte -/
  | noKey
  /-- the key byte is the last Word: no length byte -/
  | noLength
  /-- fewer value bytes than the length byte of a write frame says -/
  | shortValue
deriving DecidableEq, Repr

/-- The read frame of a key with bit 7 = 0: an exact row wins over the default row (R99, R100). -/
def decodeRead (key len : Word) : Instr :=
  match key with
  | 0x11#8 => .rdOdoCount1 len
  | 0x12#8 => .rdOdoCount2 len
  | 0x13#8 => .rdOdoCount3 len
  | 0x14#8 => .rdOdoCount4 len
  | 0x15#8 => .rdOdoCount5 len
  | 0x16#8 => .rdOdoCount6 len
  | 0x21#8 => .rdOdoSpeed1 len
  | 0x22#8 => .rdOdoSpeed2 len
  | 0x23#8 => .rdOdoSpeed3 len
  | 0x24#8 => .rdOdoSpeed4 len
  | 0x25#8 => .rdOdoSpeed5 len
  | 0x26#8 => .rdOdoSpeed6 len
  | 0x31#8 => .rdExtPort1 len
  | 0x32#8 => .rdExtPort2 len
  | 0x33#8 => .rdExtPort3 len
  | 0x34#8 => .rdExtPort4 len
  | 0x35#8 => .rdExtPort5 len
  | 0x36#8 => .rdExtPort6 len
  | 0x37#8 => .rdExtPort7 len
  | 0x42#8 => .rdDiagConst len
  | 0x71#8 => .rdDiag1 len
  | 0x72#8 => .rdDiag2 len
  | 0x73#8 => .rdDiag3 len
  | 0x74#8 => .rdDiag4 len
  | 0x75#8 => .rdDiag5 len
  | 0x76#8 => .rdDiag6 len
  | _ => .rdUnknown key len

/-- The write frame of a key with bit 7 = 1 (R99, R100). -/
def decodeWrite (key : Word) (value : List Word) : Instr :=
  match key with
  | 0x81#8 => .wrReset value
  | 0x82#8 => .wrLedGreen value
  | 0x83#8 => .wrLedB value
  | 0x84#8 => .wrLedC value
  | 0x91#8 => .wrMotor1 value
  | 0x92#8 => .wrMotor2 value
  | 0x93#8 => .wrMotor3 value
  | 0x94#8 => .wrMotor4 value
  | 0x95#8 => .wrMotor5 value
  | 0x96#8 => .wrMotor6 value
  | 0x97#8 => .wrMotor7 value
  | 0x98#8 => .wrMotor8 value
  | 0xA1#8 => .wrServo1 value
  | 0xA2#8 => .wrServo2 value
  | 0xA3#8 => .wrServo3 value
  | 0xA4#8 => .wrServo4 value
  | 0xA5#8 => .wrServo5 value
  | 0xA6#8 => .wrServo6 value
  | 0xA7#8 => .wrServo7 value
  | 0xA8#8 => .wrServo8 value
  | 0xB1#8 => .wrCtrl1 value
  | 0xB2#8 => .wrCtrl2 value
  | 0xB3#8 => .wrCtrl3 value
  | 0xB4#8 => .wrCtrl4 value
  | 0xB5#8 => .wrCtrl5 value
  | 0xB6#8 => .wrCtrl6 value
  | 0xB7#8 => .wrCtrl7 value
  | _ => .wrUnknown key value

/-- The frame at the head of a string of Words, and the Words after it. Bit 7 of the key chooses the format (R92,
R100), the length byte alone fixes the length (R98). What the host sends in the value slots of a read frame is no
part of the frame (R94). -/
def decode : List Word → Except DecodeError (Instr × List Word)
  | [] => .error .noKey
  | [_] => .error .noLength
  | key :: len :: rest =>
    if key.msb then
      if (rest.take len.toNat).length < len.toNat then .error .shortValue
      else .ok (decodeWrite key (rest.take len.toNat), rest.drop len.toNat)
    else .ok (decodeRead key len, rest)

/-- The Words of a read frame: `key, len` (R94, R106). -/
def readWords (key len : Word) : List Word := [key, len]

/-- The Words of a write frame: `key, len, b...` (R95, R106). -/
def writeWords (key : Word) (value : List Word) : List Word :=
  key :: BitVec.ofNat 8 value.length :: value

/-- The key byte of a frame (R99). -/
def Instr.key : Instr → Word
  | .rdOdoCount1 _ => 0x11#8
  | .rdOdoCount2 _ => 0x12#8
  | .rdOdoCount3 _ => 0x13#8
  | .rdOdoCount4 _ => 0x14#8
  | .rdOdoCount5 _ => 0x15#8
  | .rdOdoCount6 _ => 0x16#8
  | .rdOdoSpeed1 _ => 0x21#8
  | .rdOdoSpeed2 _ => 0x22#8
  | .rdOdoSpeed3 _ => 0x23#8
  | .rdOdoSpeed4 _ => 0x24#8
  | .rdOdoSpeed5 _ => 0x25#8
  | .rdOdoSpeed6 _ => 0x26#8
  | .rdExtPort1 _ => 0x31#8
  | .rdExtPort2 _ => 0x32#8
  | .rdExtPort3 _ => 0x33#8
  | .rdExtPort4 _ => 0x34#8
  | .rdExtPort5 _ => 0x35#8
  | .rdExtPort6 _ => 0x36#8
  | .rdExtPort7 _ => 0x37#8
  | .rdDiagConst _ => 0x42#8
  | .rdDiag1 _ => 0x71#8
  | .rdDiag2 _ => 0x72#8
  | .rdDiag3 _ => 0x73#8
  | .rdDiag4 _ => 0x74#8
  | .rdDiag5 _ => 0x75#8
  | .rdDiag6 _ => 0x76#8
  | .wrReset _ => 0x81#8
  | .wrLedGreen _ => 0x82#8
  | .wrLedB _ => 0x83#8
  | .wrLedC _ => 0x84#8
  | .wrMotor1 _ => 0x91#8
  | .wrMotor2 _ => 0x92#8
  | .wrMotor3 _ => 0x93#8
  | .wrMotor4 _ => 0x94#8
  | .wrMotor5 _ => 0x95#8
  | .wrMotor6 _ => 0x96#8
  | .wrMotor7 _ => 0x97#8
  | .wrMotor8 _ => 0x98#8
  | .wrServo1 _ => 0xA1#8
  | .wrServo2 _ => 0xA2#8
  | .wrServo3 _ => 0xA3#8
  | .wrServo4 _ => 0xA4#8
  | .wrServo5 _ => 0xA5#8
  | .wrServo6 _ => 0xA6#8
  | .wrServo7 _ => 0xA7#8
  | .wrServo8 _ => 0xA8#8
  | .wrCtrl1 _ => 0xB1#8
  | .wrCtrl2 _ => 0xB2#8
  | .wrCtrl3 _ => 0xB3#8
  | .wrCtrl4 _ => 0xB4#8
  | .wrCtrl5 _ => 0xB5#8
  | .wrCtrl6 _ => 0xB6#8
  | .wrCtrl7 _ => 0xB7#8
  | .rdUnknown key _ => key
  | .wrUnknown key _ => key

/-- The encoder: the Words the host sends for a frame, first sent first (R94, R95, R106). -/
def encode : Instr → List Word
  | .rdOdoCount1 len => readWords 0x11#8 len
  | .rdOdoCount2 len => readWords 0x12#8 len
  | .rdOdoCount3 len => readWords 0x13#8 len
  | .rdOdoCount4 len => readWords 0x14#8 len
  | .rdOdoCount5 len => readWords 0x15#8 len
  | .rdOdoCount6 len => readWords 0x16#8 len
  | .rdOdoSpeed1 len => readWords 0x21#8 len
  | .rdOdoSpeed2 len => readWords 0x22#8 len
  | .rdOdoSpeed3 len => readWords 0x23#8 len
  | .rdOdoSpeed4 len => readWords 0x24#8 len
  | .rdOdoSpeed5 len => readWords 0x25#8 len
  | .rdOdoSpeed6 len => readWords 0x26#8 len
  | .rdExtPort1 len => readWords 0x31#8 len
  | .rdExtPort2 len => readWords 0x32#8 len
  | .rdExtPort3 len => readWords 0x33#8 len
  | .rdExtPort4 len => readWords 0x34#8 len
  | .rdExtPort5 len => readWords 0x35#8 len
  | .rdExtPort6 len => readWords 0x36#8 len
  | .rdExtPort7 len => readWords 0x37#8 len
  | .rdDiagConst len => readWords 0x42#8 len
  | .rdDiag1 len => readWords 0x71#8 len
  | .rdDiag2 len => readWords 0x72#8 len
  | .rdDiag3 len => readWords 0x73#8 len
  | .rdDiag4 len => readWords 0x74#8 len
  | .rdDiag5 len => readWords 0x75#8 len
  | .rdDiag6 len => readWords 0x76#8 len
  | .wrReset value => writeWords 0x81#8 value
  | .wrLedGreen value => writeWords 0x82#8 value
  | .wrLedB value => writeWords 0x83#8 value
  | .wrLedC value => writeWords 0x84#8 value
  | .wrMotor1 value => writeWords 0x91#8 value
  | .wrMotor2 value => writeWords 0x92#8 value
  | .wrMotor3 value => writeWords 0x93#8 value
  | .wrMotor4 value => writeWords 0x94#8 value
  | .wrMotor5 value => writeWords 0x95#8 value
  | .wrMotor6 value => writeWords 0x96#8 value
  | .wrMotor7 value => writeWords 0x97#8 value
  | .wrMotor8 value => writeWords 0x98#8 value
  | .wrServo1 value => writeWords 0xA1#8 value
  | .wrServo2 value => writeWords 0xA2#8 value
  | .wrServo3 value => writeWords 0xA3#8 value
  | .wrServo4 value => writeWords 0xA4#8 value
  | .wrServo5 value => writeWords 0xA5#8 value
  | .wrServo6 value => writeWords 0xA6#8 value
  | .wrServo7 value => writeWords 0xA7#8 value
  | .wrServo8 value => writeWords 0xA8#8 value
  | .wrCtrl1 value => writeWords 0xB1#8 value
  | .wrCtrl2 value => writeWords 0xB2#8 value
  | .wrCtrl3 value => writeWords 0xB3#8 value
  | .wrCtrl4 value => writeWords 0xB4#8 value
  | .wrCtrl5 value => writeWords 0xB5#8 value
  | .wrCtrl6 value => writeWords 0xB6#8 value
  | .wrCtrl7 value => writeWords 0xB7#8 value
  | .rdUnknown key len => readWords key len
  | .wrUnknown key value => writeWords key value

/-- The most Words a frame has: key, length and 255 value bytes (R91, R93). -/
def longestFrame : Nat := 257

/-- `n` Words of the number `w`, the first in its least significant byte (the numbering of
spec/opcode_table.json). -/
def tableBytes : Nat → Nat → List Word
  | 0, _ => []
  | n + 1, w => BitVec.ofNat 8 w :: tableBytes n (w / 256)

/-- The instruction's `nbits` bits `w` and, after them, Words of zeros up to the longest frame. -/
def tableWords (nbits w : Nat) : List Word :=
  tableBytes (nbits / 8) w ++ List.replicate longestFrame 0#8

/-- The instruction the decoder reads from the bits `w` of a row of spec/opcode_table.json. -/
def decodeTableWord (nbits w : Nat) : Option Instr :=
  match decode (tableWords nbits w) with
  | .ok (i, _) => some i
  | .error _ => none

end Sys2Proof
end

