-- ==== Sys2Proof/Machine/Controls.lean ====
section
/-! DEFINITION. WR.CTRL1 to WR.CTRL7: the control-loop registers, `W_CTRL[i]` bits (43_register_map R257 to R263). -/

namespace Sys2Proof.Machine

/-- `WR.CTRL1`, key 0xB1 (R257). -/
def execWrCtrl1 (value : List Word) (s : State) : Result :=
  .next (writeFrame 0xB1#8 value (fun t =>
    storeRegs value { t.regs with ctrl1 := written t 0xB1#8 value t.regs.ctrl1 } t) s)

/-- `WR.CTRL2`, key 0xB2 (R258). -/
def execWrCtrl2 (value : List Word) (s : State) : Result :=
  .next (writeFrame 0xB2#8 value (fun t =>
    storeRegs value { t.regs with ctrl2 := written t 0xB2#8 value t.regs.ctrl2 } t) s)

/-- `WR.CTRL3`, key 0xB3 (R259). -/
def execWrCtrl3 (value : List Word) (s : State) : Result :=
  .next (writeFrame 0xB3#8 value (fun t =>
    storeRegs value { t.regs with ctrl3 := written t 0xB3#8 value t.regs.ctrl3 } t) s)

/-- `WR.CTRL4`, key 0xB4 (R260). -/
def execWrCtrl4 (value : List Word) (s : State) : Result :=
  .next (writeFrame 0xB4#8 value (fun t =>
    storeRegs value { t.regs with ctrl4 := written t 0xB4#8 value t.regs.ctrl4 } t) s)

/-- `WR.CTRL5`, key 0xB5 (R261). -/
def execWrCtrl5 (value : List Word) (s : State) : Result :=
  .next (writeFrame 0xB5#8 value (fun t =>
    storeRegs value { t.regs with ctrl5 := written t 0xB5#8 value t.regs.ctrl5 } t) s)

/-- `WR.CTRL6`, key 0xB6 (R262). -/
def execWrCtrl6 (value : List Word) (s : State) : Result :=
  .next (writeFrame 0xB6#8 value (fun t =>
    storeRegs value { t.regs with ctrl6 := written t 0xB6#8 value t.regs.ctrl6 } t) s)

/-- `WR.CTRL7`, key 0xB7 (R263). -/
def execWrCtrl7 (value : List Word) (s : State) : Result :=
  .next (writeFrame 0xB7#8 value (fun t =>
    storeRegs value { t.regs with ctrl7 := written t 0xB7#8 value t.regs.ctrl7 } t) s)

end Sys2Proof.Machine
end

