-- ==== Sys2Proof/Machine/Diagnostics.lean ====
section
/-! DEFINITION. RD.DIAG_CONST and RD.DIAG1 to RD.DIAG6 (43_register_map R230 to R236). -/

namespace Sys2Proof.Machine

/-- `RD.DIAG_CONST`, key 0x42 (R230): read-only, the constant 0xDEADC0DE at every tick. -/
def execRdDiagConst (len : Word) (s : State) : Result :=
  .next (readFrame 0x42#8 len (Config.diagConst.setWidth 64) s)

/-- `RD.DIAG1`, key 0x71 (R231): read-only, the pattern its peripheral shows at this tick. -/
def execRdDiag1 (len : Word) (s : State) : Result :=
  .next (readFrame 0x71#8 len (s.periph.diag1.setWidth 64) s)

/-- `RD.DIAG2`, key 0x72 (R232): read-only, the pattern its peripheral shows at this tick. -/
def execRdDiag2 (len : Word) (s : State) : Result :=
  .next (readFrame 0x72#8 len (s.periph.diag2.setWidth 64) s)

/-- `RD.DIAG3`, key 0x73 (R233): read-only, the pattern its peripheral shows at this tick. -/
def execRdDiag3 (len : Word) (s : State) : Result :=
  .next (readFrame 0x73#8 len (s.periph.diag3.setWidth 64) s)

/-- `RD.DIAG4`, key 0x74 (R234): read-only, the pattern its peripheral shows at this tick. -/
def execRdDiag4 (len : Word) (s : State) : Result :=
  .next (readFrame 0x74#8 len (s.periph.diag4.setWidth 64) s)

/-- `RD.DIAG5`, key 0x75 (R235): read-only, the pattern its peripheral shows at this tick. -/
def execRdDiag5 (len : Word) (s : State) : Result :=
  .next (readFrame 0x75#8 len (s.periph.diag5.setWidth 64) s)

/-- `RD.DIAG6`, key 0x76 (R236): read-only, the pattern its peripheral shows at this tick. -/
def execRdDiag6 (len : Word) (s : State) : Result :=
  .next (readFrame 0x76#8 len (s.periph.diag6.setWidth 64) s)

end Sys2Proof.Machine
end

