-- ==== Sys2Proof/Machine/ExtPorts.lean ====
section
/-! DEFINITION. RD.EXT_PORT1 to RD.EXT_PORT7: the extension-port snapshots (43_register_map R223 to R229). -/

namespace Sys2Proof.Machine

/-- `RD.EXT_PORT1`, key 0x31 (R223): read-only, the pattern its peripheral shows at this tick. -/
def execRdExtPort1 (len : Word) (s : State) : Result :=
  .next (readFrame 0x31#8 len (s.periph.extPort1.setWidth 64) s)

/-- `RD.EXT_PORT2`, key 0x32 (R224): read-only, the pattern its peripheral shows at this tick. -/
def execRdExtPort2 (len : Word) (s : State) : Result :=
  .next (readFrame 0x32#8 len (s.periph.extPort2.setWidth 64) s)

/-- `RD.EXT_PORT3`, key 0x33 (R225): read-only, the pattern its peripheral shows at this tick. -/
def execRdExtPort3 (len : Word) (s : State) : Result :=
  .next (readFrame 0x33#8 len (s.periph.extPort3.setWidth 64) s)

/-- `RD.EXT_PORT4`, key 0x34 (R226): read-only, the pattern its peripheral shows at this tick. -/
def execRdExtPort4 (len : Word) (s : State) : Result :=
  .next (readFrame 0x34#8 len (s.periph.extPort4.setWidth 64) s)

/-- `RD.EXT_PORT5`, key 0x35 (R227): read-only, the pattern its peripheral shows at this tick. -/
def execRdExtPort5 (len : Word) (s : State) : Result :=
  .next (readFrame 0x35#8 len (s.periph.extPort5.setWidth 64) s)

/-- `RD.EXT_PORT6`, key 0x36 (R228): read-only, the pattern its peripheral shows at this tick. -/
def execRdExtPort6 (len : Word) (s : State) : Result :=
  .next (readFrame 0x36#8 len (s.periph.extPort6.setWidth 64) s)

/-- `RD.EXT_PORT7`, key 0x37 (R229): read-only, the pattern its peripheral shows at this tick. -/
def execRdExtPort7 (len : Word) (s : State) : Result :=
  .next (readFrame 0x37#8 len (s.periph.extPort7.setWidth 64) s)

end Sys2Proof.Machine
end

