-- ==== Sys2Proof/Machine/Leds.lean ====
section
/-! DEFINITION. WR.LED_GREEN, WR.LED_B and WR.LED_C: one bit each, the LED output itself (43_register_map R238 to R240,
42_register_dispatch R192). -/

namespace Sys2Proof.Machine

/-- `WR.LED_GREEN`, key 0x82 (R238). -/
def execWrLedGreen (value : List Word) (s : State) : Result :=
  .next (writeFrame 0x82#8 value (fun t =>
    storeRegs value { t.regs with ledGreen := written t 0x82#8 value t.regs.ledGreen } t) s)

/-- `WR.LED_B`, key 0x83 (R239). -/
def execWrLedB (value : List Word) (s : State) : Result :=
  .next (writeFrame 0x83#8 value (fun t =>
    storeRegs value { t.regs with ledB := written t 0x83#8 value t.regs.ledB } t) s)

/-- `WR.LED_C`, key 0x84 (R240). -/
def execWrLedC (value : List Word) (s : State) : Result :=
  .next (writeFrame 0x84#8 value (fun t =>
    storeRegs value { t.regs with ledC := written t 0x84#8 value t.regs.ledC } t) s)

end Sys2Proof.Machine
end

