-- ==== Sys2Proof/Machine/Motors.lean ====
section
/-! DEFINITION. WR.MOTOR1 to WR.MOTOR8: signed, `W_MOTOR` bits (43_register_map R241 to R248). -/

namespace Sys2Proof.Machine

/-- `WR.MOTOR1`, key 0x91 (R241). -/
def execWrMotor1 (value : List Word) (s : State) : Result :=
  .next (writeFrame 0x91#8 value (fun t =>
    storeRegs value { t.regs with motor1 := written t 0x91#8 value t.regs.motor1 } t) s)

/-- `WR.MOTOR2`, key 0x92 (R242). -/
def execWrMotor2 (value : List Word) (s : State) : Result :=
  .next (writeFrame 0x92#8 value (fun t =>
    storeRegs value { t.regs with motor2 := written t 0x92#8 value t.regs.motor2 } t) s)

/-- `WR.MOTOR3`, key 0x93 (R243). -/
def execWrMotor3 (value : List Word) (s : State) : Result :=
  .next (writeFrame 0x93#8 value (fun t =>
    storeRegs value { t.regs with motor3 := written t 0x93#8 value t.regs.motor3 } t) s)

/-- `WR.MOTOR4`, key 0x94 (R244). -/
def execWrMotor4 (value : List Word) (s : State) : Result :=
  .next (writeFrame 0x94#8 value (fun t =>
    storeRegs value { t.regs with motor4 := written t 0x94#8 value t.regs.motor4 } t) s)

/-- `WR.MOTOR5`, key 0x95 (R245). -/
def execWrMotor5 (value : List Word) (s : State) : Result :=
  .next (writeFrame 0x95#8 value (fun t =>
    storeRegs value { t.regs with motor5 := written t 0x95#8 value t.regs.motor5 } t) s)

/-- `WR.MOTOR6`, key 0x96 (R246). -/
def execWrMotor6 (value : List Word) (s : State) : Result :=
  .next (writeFrame 0x96#8 value (fun t =>
    storeRegs value { t.regs with motor6 := written t 0x96#8 value t.regs.motor6 } t) s)

/-- `WR.MOTOR7`, key 0x97 (R247). -/
def execWrMotor7 (value : List Word) (s : State) : Result :=
  .next (writeFrame 0x97#8 value (fun t =>
    storeRegs value { t.regs with motor7 := written t 0x97#8 value t.regs.motor7 } t) s)

/-- `WR.MOTOR8`, key 0x98 (R248). -/
def execWrMotor8 (value : List Word) (s : State) : Result :=
  .next (writeFrame 0x98#8 value (fun t =>
    storeRegs value { t.regs with motor8 := written t 0x98#8 value t.regs.motor8 } t) s)

end Sys2Proof.Machine
end

