-- ==== Sys2Proof/Machine/OdoCounts.lean ====
section
/-! DEFINITION. RD.ODO_COUNT1 to RD.ODO_COUNT6: the odometer counts (43_register_map R211 to R216). -/

namespace Sys2Proof.Machine

/-- `RD.ODO_COUNT1`, key 0x11 (R211): read-only, the pattern its peripheral shows at this tick. -/
def execRdOdoCount1 (len : Word) (s : State) : Result :=
  .next (readFrame 0x11#8 len (s.periph.odoCount1.setWidth 64) s)

/-- `RD.ODO_COUNT2`, key 0x12 (R212): read-only, the pattern its peripheral shows at this tick. -/
def execRdOdoCount2 (len : Word) (s : State) : Result :=
  .next (readFrame 0x12#8 len (s.periph.odoCount2.setWidth 64) s)

/-- `RD.ODO_COUNT3`, key 0x13 (R213): read-only, the pattern its peripheral shows at this tick. -/
def execRdOdoCount3 (len : Word) (s : State) : Result :=
  .next (readFrame 0x13#8 len (s.periph.odoCount3.setWidth 64) s)

/-- `RD.ODO_COUNT4`, key 0x14 (R214): read-only, the pattern its peripheral shows at this tick. -/
def execRdOdoCount4 (len : Word) (s : State) : Result :=
  .next (readFrame 0x14#8 len (s.periph.odoCount4.setWidth 64) s)

/-- `RD.ODO_COUNT5`, key 0x15 (R215): read-only, the pattern its peripheral shows at this tick. -/
def execRdOdoCount5 (len : Word) (s : State) : Result :=
  .next (readFrame 0x15#8 len (s.periph.odoCount5.setWidth 64) s)

/-- `RD.ODO_COUNT6`, key 0x16 (R216): read-only, the pattern its peripheral shows at this tick. -/
def execRdOdoCount6 (len : Word) (s : State) : Result :=
  .next (readFrame 0x16#8 len (s.periph.odoCount6.setWidth 64) s)

end Sys2Proof.Machine
end

