-- ==== Sys2Proof/Machine/OdoSpeeds.lean ====
section
/-! DEFINITION. RD.ODO_SPEED1 to RD.ODO_SPEED6: the speeds (43_register_map R217 to R222). -/

namespace Sys2Proof.Machine

/-- `RD.ODO_SPEED1`, key 0x21 (R217): read-only, the pattern its peripheral shows at this tick. -/
def execRdOdoSpeed1 (len : Word) (s : State) : Result :=
  .next (readFrame 0x21#8 len (s.periph.odoSpeed1.setWidth 64) s)

/-- `RD.ODO_SPEED2`, key 0x22 (R218): read-only, the pattern its peripheral shows at this tick. -/
def execRdOdoSpeed2 (len : Word) (s : State) : Result :=
  .next (readFrame 0x22#8 len (s.periph.odoSpeed2.setWidth 64) s)

/-- `RD.ODO_SPEED3`, key 0x23 (R219): read-only, the pattern its peripheral shows at this tick. -/
def execRdOdoSpeed3 (len : Word) (s : State) : Result :=
  .next (readFrame 0x23#8 len (s.periph.odoSpeed3.setWidth 64) s)

/-- `RD.ODO_SPEED4`, key 0x24 (R220): read-only, the pattern its peripheral shows at this tick. -/
def execRdOdoSpeed4 (len : Word) (s : State) : Result :=
  .next (readFrame 0x24#8 len (s.periph.odoSpeed4.setWidth 64) s)

/-- `RD.ODO_SPEED5`, key 0x25 (R221): read-only, the pattern its peripheral shows at this tick. -/
def execRdOdoSpeed5 (len : Word) (s : State) : Result :=
  .next (readFrame 0x25#8 len (s.periph.odoSpeed5.setWidth 64) s)

/-- `RD.ODO_SPEED6`, key 0x26 (R222): read-only, the pattern its peripheral shows at this tick. -/
def execRdOdoSpeed6 (len : Word) (s : State) : Result :=
  .next (readFrame 0x26#8 len (s.periph.odoSpeed6.setWidth 64) s)

end Sys2Proof.Machine
end

