-- ==== Sys2Proof/Machine/ResetKey.lean ====
section
/-! DEFINITION. WR.RESET: the reset pulse (43_register_map R237). -/

namespace Sys2Proof.Machine

/-- `WR.RESET`, key 0x81 (R237): stores nothing, ignores the value and pulses `global_reset` (R192). -/
def execWrReset (value : List Word) (s : State) : Result :=
  .next (writeFrame 0x81#8 value (pulseReset value.length) s)

end Sys2Proof.Machine
end

