-- ==== Sys2Proof/Machine/Servos.lean ====
section
/-! DEFINITION. WR.SERVO1 to WR.SERVO8: unsigned, 16 bits (43_register_map R249 to R256). -/

namespace Sys2Proof.Machine

/-- `WR.SERVO1`, key 0xA1 (R249). -/
def execWrServo1 (value : List Word) (s : State) : Result :=
  .next (writeFrame 0xA1#8 value (fun t =>
    storeRegs value { t.regs with servo1 := written t 0xA1#8 value t.regs.servo1 } t) s)

/-- `WR.SERVO2`, key 0xA2 (R250). -/
def execWrServo2 (value : List Word) (s : State) : Result :=
  .next (writeFrame 0xA2#8 value (fun t =>
    storeRegs value { t.regs with servo2 := written t 0xA2#8 value t.regs.servo2 } t) s)

/-- `WR.SERVO3`, key 0xA3 (R251). -/
def execWrServo3 (value : List Word) (s : State) : Result :=
  .next (writeFrame 0xA3#8 value (fun t =>
    storeRegs value { t.regs with servo3 := written t 0xA3#8 value t.regs.servo3 } t) s)

/-- `WR.SERVO4`, key 0xA4 (R252). -/
def execWrServo4 (value : List Word) (s : State) : Result :=
  .next (writeFrame 0xA4#8 value (fun t =>
    storeRegs value { t.regs with servo4 := written t 0xA4#8 value t.regs.servo4 } t) s)

/-- `WR.SERVO5`, key 0xA5 (R253). -/
def execWrServo5 (value : List Word) (s : State) : Result :=
  .next (writeFrame 0xA5#8 value (fun t =>
    storeRegs value { t.regs with servo5 := written t 0xA5#8 value t.regs.servo5 } t) s)

/-- `WR.SERVO6`, key 0xA6 (R254). -/
def execWrServo6 (value : List Word) (s : State) : Result :=
  .next (writeFrame 0xA6#8 value (fun t =>
    storeRegs value { t.regs with servo6 := written t 0xA6#8 value t.regs.servo6 } t) s)

/-- `WR.SERVO7`, key 0xA7 (R255). -/
def execWrServo7 (value : List Word) (s : State) : Result :=
  .next (writeFrame 0xA7#8 value (fun t =>
    storeRegs value { t.regs with servo7 := written t 0xA7#8 value t.regs.servo7 } t) s)

/-- `WR.SERVO8`, key 0xA8 (R256). -/
def execWrServo8 (value : List Word) (s : State) : Result :=
  .next (writeFrame 0xA8#8 value (fun t =>
    storeRegs value { t.regs with servo8 := written t 0xA8#8 value t.regs.servo8 } t) s)

end Sys2Proof.Machine
end

