-- ==== Sys2Proof/Machine/Unlisted.lean ====
section
/-! DEFINITION. RD.UNKNOWN and WR.UNKNOWN: the keys outside the map (43_register_map R264, R265), with the entries that a platform
added under them (R266). -/

namespace Sys2Proof.Machine

/-- What a read of a key outside the map finds (R182, R264): the sentinel, unless the platform added a readable entry
(R266); an added write-only entry is a miss too (R194). -/
def unlistedValue (s : State) (key : Word) : Value :=
  match s.platformEntry key with
  | none => Config.sentinel
  | some p => if p.direction.readable then s.platformGet p else Config.sentinel

/-- What a write to a key outside the map does (R188, R265): nothing, unless the platform added a writable entry
(R266); an added read-only entry discards too (R194). -/
def unlistedWrite (key : Word) (value : List Word) (t : State) : State :=
  match t.platformEntry key with
  | none => t
  | some p =>
    if p.direction.writable then
      spendOverlong value.length
        { t with platform := updatePlatform key (fun _ old => written t key value old) t.platform }
    else t

/-- `RD.UNKNOWN`, any other key with bit 7 = 0 (R264). -/
def execRdUnknown (key len : Word) (s : State) : Result :=
  .next (readFrame key len (unlistedValue s key) s)

/-- `WR.UNKNOWN`, any other key with bit 7 = 1 (R265). -/
def execWrUnknown (key : Word) (value : List Word) (s : State) : Result :=
  .next (writeFrame key value (unlistedWrite key value) s)

end Sys2Proof.Machine
end

