-- ==== Sys2Proof/Machine/Dispatch.lean ====
section
/-! DEFINITION. The meaning of every frame: one arm per constructor of Instr. -/

namespace Sys2Proof.Machine

def exec (i : Instr) (s : State) : Host.Outcome State Fault Refusal :=
  match i with
  | .rdOdoCount1 len => Sys2Proof.Machine.execRdOdoCount1 len s
  | .rdOdoCount2 len => Sys2Proof.Machine.execRdOdoCount2 len s
  | .rdOdoCount3 len => Sys2Proof.Machine.execRdOdoCount3 len s
  | .rdOdoCount4 len => Sys2Proof.Machine.execRdOdoCount4 len s
  | .rdOdoCount5 len => Sys2Proof.Machine.execRdOdoCount5 len s
  | .rdOdoCount6 len => Sys2Proof.Machine.execRdOdoCount6 len s
  | .rdOdoSpeed1 len => Sys2Proof.Machine.execRdOdoSpeed1 len s
  | .rdOdoSpeed2 len => Sys2Proof.Machine.execRdOdoSpeed2 len s
  | .rdOdoSpeed3 len => Sys2Proof.Machine.execRdOdoSpeed3 len s
  | .rdOdoSpeed4 len => Sys2Proof.Machine.execRdOdoSpeed4 len s
  | .rdOdoSpeed5 len => Sys2Proof.Machine.execRdOdoSpeed5 len s
  | .rdOdoSpeed6 len => Sys2Proof.Machine.execRdOdoSpeed6 len s
  | .rdExtPort1 len => Sys2Proof.Machine.execRdExtPort1 len s
  | .rdExtPort2 len => Sys2Proof.Machine.execRdExtPort2 len s
  | .rdExtPort3 len => Sys2Proof.Machine.execRdExtPort3 len s
  | .rdExtPort4 len => Sys2Proof.Machine.execRdExtPort4 len s
  | .rdExtPort5 len => Sys2Proof.Machine.execRdExtPort5 len s
  | .rdExtPort6 len => Sys2Proof.Machine.execRdExtPort6 len s
  | .rdExtPort7 len => Sys2Proof.Machine.execRdExtPort7 len s
  | .rdDiagConst len => Sys2Proof.Machine.execRdDiagConst len s
  | .rdDiag1 len => Sys2Proof.Machine.execRdDiag1 len s
  | .rdDiag2 len => Sys2Proof.Machine.execRdDiag2 len s
  | .rdDiag3 len => Sys2Proof.Machine.execRdDiag3 len s
  | .rdDiag4 len => Sys2Proof.Machine.execRdDiag4 len s
  | .rdDiag5 len => Sys2Proof.Machine.execRdDiag5 len s
  | .rdDiag6 len => Sys2Proof.Machine.execRdDiag6 len s
  | .wrReset value => Sys2Proof.Machine.execWrReset value s
  | .wrLedGreen value => Sys2Proof.Machine.execWrLedGreen value s
  | .wrLedB value => Sys2Proof.Machine.execWrLedB value s
  | .wrLedC value => Sys2Proof.Machine.execWrLedC value s
  | .wrMotor1 value => Sys2Proof.Machine.execWrMotor1 value s
  | .wrMotor2 value => Sys2Proof.Machine.execWrMotor2 value s
  | .wrMotor3 value => Sys2Proof.Machine.execWrMotor3 value s
  | .wrMotor4 value => Sys2Proof.Machine.execWrMotor4 value s
  | .wrMotor5 value => Sys2Proof.Machine.execWrMotor5 value s
  | .wrMotor6 value => Sys2Proof.Machine.execWrMotor6 value s
  | .wrMotor7 value => Sys2Proof.Machine.execWrMotor7 value s
  | .wrMotor8 value => Sys2Proof.Machine.execWrMotor8 value s
  | .wrServo1 value => Sys2Proof.Machine.execWrServo1 value s
  | .wrServo2 value => Sys2Proof.Machine.execWrServo2 value s
  | .wrServo3 value => Sys2Proof.Machine.execWrServo3 value s
  | .wrServo4 value => Sys2Proof.Machine.execWrServo4 value s
  | .wrServo5 value => Sys2Proof.Machine.execWrServo5 value s
  | .wrServo6 value => Sys2Proof.Machine.execWrServo6 value s
  | .wrServo7 value => Sys2Proof.Machine.execWrServo7 value s
  | .wrServo8 value => Sys2Proof.Machine.execWrServo8 value s
  | .wrCtrl1 value => Sys2Proof.Machine.execWrCtrl1 value s
  | .wrCtrl2 value => Sys2Proof.Machine.execWrCtrl2 value s
  | .wrCtrl3 value => Sys2Proof.Machine.execWrCtrl3 value s
  | .wrCtrl4 value => Sys2Proof.Machine.execWrCtrl4 value s
  | .wrCtrl5 value => Sys2Proof.Machine.execWrCtrl5 value s
  | .wrCtrl6 value => Sys2Proof.Machine.execWrCtrl6 value s
  | .wrCtrl7 value => Sys2Proof.Machine.execWrCtrl7 value s
  | .rdUnknown key len => Sys2Proof.Machine.execRdUnknown key len s
  | .wrUnknown key value => Sys2Proof.Machine.execWrUnknown key value s

end Sys2Proof.Machine
end

