-- ==== Sys2Proof/Machine/FrameDecoder.lean ====
section
/-! DEFINITION. FrameDecoder: the five-state KLV machine on the internal tick (41_frame_decoder R150 to R161). -/

namespace Sys2Proof.Machine

/-- Both ToggleFlags are copied into the seen-copies, which changes a copy only where its flag shows work (R151). -/
def observed (s : State) : State := { s with rxSeen := s.rxToggle, txSeen := s.txToggle }

/-- `ReadKey` on a received Word (R152). -/
def onKeyWord (s : State) : State :=
  { observed s with
    key := s.rxWord
    phase := if isWriteKey s.rxWord then .getWriteLength else .getReadLength }

/-- `GetReadLength` on a received Word (R153): a zero length ends the frame, any other raises the read-request. -/
def onReadLength (s : State) : State :=
  if s.rxWord = 0#8 then { observed s with length := s.rxWord, phase := .readKey }
  else { observed s with length := s.rxWord, offset := offsetOf s.rxWord, evt := .readReq }

/-- `GetWriteLength` on a received Word (R154): a zero length raises the write-complete with an empty value. -/
def onWriteLength (s : State) : State :=
  if s.rxWord = 0#8 then { observed s with length := s.rxWord, evt := .writeDone }
  else { observed s with length := s.rxWord, offset := offsetOf s.rxWord, phase := .masterWrite }

/-- The buffer with the received Word stored at the offset, or as it was where the buffer ends (R155, decision D12). -/
def storedByte (s : State) : Value :=
  if s.offset.toNat < 64 then putByte s.vbuf s.offset.toNat s.rxWord else s.vbuf

/-- `MasterWrite` on a received Word (R155): the last byte raises the write-complete. -/
def onValueWord (s : State) : State :=
  if s.offset = 0#11 then { observed s with vbuf := storedByte s, evt := .writeDone }
  else { observed s with vbuf := storedByte s, offset := s.offset - 8#11 }

/-- `MasterRead` on an acceptance (R158): the next value byte is submitted, or the last one is known to be going out. -/
def onAcceptance (s : State) : State :=
  if s.rdLast then observed s
  else if s.offset = 0#11 then { observed s with rdLast := true }
  else submitAt (s.offset - 8#11) { observed s with offset := s.offset - 8#11 }

/-- `MasterRead` (R158, R159): an acceptance and a received Word of one tick are both handled against the state as the
tick began; a received Word ends the frame only where the last byte had been accepted before. -/
def onMasterRead (s : State) : State :=
  if rxNew s && s.rdLast then { observed s with phase := .readKey, rdLast := false }
  else if txNew s then onAcceptance s
  else observed s

/-- Part 2 of a tick with no event pending and the link selected: the rule of the current state (R150 (3), R151); an
acceptance outside `MasterRead` is only observed (R161). -/
def decodeState (s : State) : State :=
  match s.phase with
  | .readKey => if rxNew s then onKeyWord s else observed s
  | .getReadLength => if rxNew s then onReadLength s else observed s
  | .getWriteLength => if rxNew s then onWriteLength s else observed s
  | .masterWrite => if rxNew s then onValueWord s else observed s
  | .masterRead => onMasterRead s

/-- Part 2 of a tick (R150, R151): cancellation, else the commit of the event that was pending as the tick began (R156,
R157), else the rule of the current state. `s` is the state as `Service` left it. -/
def decodePart (pending : Event) (s : State) : State :=
  if s.linkDesel then cancelFrame s
  else
    match pending with
    | .readReq => submitAt s.offset { s with evt := .none, phase := .masterRead, rdLast := false }
    | .writeDone => { s with evt := .none, phase := .readKey }
    | .none => decodeState s

/-- The complete step function of a `Tick` (R151): service, then decode. -/
def decoderTick (s : State) : State := decodePart s.evt (service s)

end Sys2Proof.Machine
end

