-- ==== Sys2Proof/Machine/Tick.lean ====
section
/-! DEFINITION. The tick as the machine's step over frames: the frame that is due is fetched from the decoder's
registers, decoded and executed; every other tick is FrameDecoder's own transition (41_frame_decoder R151). -/

namespace Sys2Proof.Machine

/-- The frame that completes at this tick, and the state it is executed in: the frame of a raised event (R150, R156,
R157), or the zero-length read whose length Word has just completed (R153). A raised event that FrameDecoder cannot
have raised for this key, length and offset is no frame of the wire (R194; log 18). -/
def frameDue (s : State) : Option (State × List Word) :=
  match s.evt with
  | .readReq =>
    if !isWriteKey s.key && s.length != 0#8 && s.offset == offsetOf s.length then
      some (s, [s.key, s.length])
    else none
  | .writeDone =>
    if isWriteKey s.key && (s.length == 0#8 || s.offset == 0#11) then
      some (s, s.key :: s.length :: bytesOf s.vbuf s.length.toNat)
    else none
  | .none =>
    if !s.linkDesel && s.phase == .getReadLength && rxNew s && s.rxWord == 0#8 && !isWriteKey s.key then
      some (observed s, [s.key, s.rxWord])
    else none

/-- One `Tick` (R150): the core's reset where `global_reset` is fed back (R315), else the frame that is due, else
FrameDecoder's own transition. -/
def tick (s : State) : Result :=
  if s.globalReset && Config.resetLoopback then .next (coreReset s)
  else
    match frameDue s with
    | none => .next (decoderTick s)
    | some (t, words) =>
      match decode words with
      | .ok (i, _) => exec i t
      | .error _ => .next (decoderTick s)

/-- The state in which the frame `i` is due at the next step (log 20): selected, a tick to come, the frame in the
decoder's registers as its Words leave them (R153 to R155), its event raised; a zero-length read raises none, its
length Word has just completed. -/
def placeFrame (i : Instr) (s : State) : State :=
  let t := { s with inputs := .tick :: s.inputs, linkDesel := false, globalReset := false, key := i.key }
  match encode i with
  | _ :: len :: value =>
    if isWriteKey i.key then
      if len = 0#8 then { t with length := len, phase := .getWriteLength, evt := .writeDone }
      else
        { t with
          length := len, phase := .masterWrite, evt := .writeDone, offset := 0#11
          vbuf := putWindow s.vbuf len.toNat (valueOf value) }
    else if len = 0#8 then
      { t with phase := .getReadLength, evt := .none, rxWord := len, rxToggle := !s.rxSeen }
    else
      { t with length := len, phase := .getReadLength, evt := .readReq, offset := offsetOf len }
  | _ => s

end Sys2Proof.Machine
end

