-- ==== Sys2Proof/Machine/Step.lean ====
section
/-! DEFINITION. One step of the machine (00_scope R8): the next event of the outside world, or, where none is to come, the
internal tick, which never stops (R164, R297; log 1). -/

namespace Sys2Proof.Machine

/-- One atomic step. -/
def step (s : State) : Host.Outcome State Fault Refusal :=
  match s.inputs with
  | [] => tick s
  | .tick :: rest => tick { s with inputs := rest }
  | .select :: rest => .next (onSelect { s with inputs := rest })
  | .deselect :: rest => .next (onDeselect { s with inputs := rest })
  | .rise :: rest => .next (onRise { s with inputs := rest })
  | .fall b :: rest => .next (onFall b { s with inputs := rest })
  | .periph k v :: rest => .next (supply k v { s with inputs := rest })

/-- `s` with the instruction of `nbits` bits `w` placed as the frame that the very next step runs (log 20). -/
def State.withFetchWord (s : State) (nbits w : Nat) : State :=
  match decodeTableWord nbits w with
  | some i => placeFrame i s
  | none => s

end Sys2Proof.Machine
end

