-- ==== Sys2Proof/WellFormed.lean ====
section
/-! DEFINITION. Which frames can stand on the wire: a value of at most 255 bytes (30_encoding R93), and, for the two
default rows, a key of the right direction with no exact row (R99, R100, R264, R265). -/

namespace Sys2Proof

/-- `k` is one of the keys `lo` to `hi`. -/
def keyBetween (lo hi k : Word) : Bool := lo.ule k && k.ule hi

/-- The read keys of the map (R264: "all of them except ..."). -/
def listedRead (k : Word) : Bool :=
  keyBetween 0x11#8 0x16#8 k || keyBetween 0x21#8 0x26#8 k || keyBetween 0x31#8 0x37#8 k
    || k == 0x42#8 || keyBetween 0x71#8 0x76#8 k

/-- The write keys of the map (R265: "all of them except ..."). -/
def listedWrite (k : Word) : Bool :=
  keyBetween 0x81#8 0x84#8 k || keyBetween 0x91#8 0x98#8 k || keyBetween 0xA1#8 0xA8#8 k
    || keyBetween 0xB1#8 0xB7#8 k

/-- The number of value bytes fits the length byte (R93). -/
def valueFits (value : List Word) : Bool := value.length ≤ 255

/-- The frames that exist on the wire. -/
def Instr.wellFormed : Instr → Bool
  | .rdOdoCount1 _ => true
  | .rdOdoCount2 _ => true
  | .rdOdoCount3 _ => true
  | .rdOdoCount4 _ => true
  | .rdOdoCount5 _ => true
  | .rdOdoCount6 _ => true
  | .rdOdoSpeed1 _ => true
  | .rdOdoSpeed2 _ => true
  | .rdOdoSpeed3 _ => true
  | .rdOdoSpeed4 _ => true
  | .rdOdoSpeed5 _ => true
  | .rdOdoSpeed6 _ => true
  | .rdExtPort1 _ => true
  | .rdExtPort2 _ => true
  | .rdExtPort3 _ => true
  | .rdExtPort4 _ => true
  | .rdExtPort5 _ => true
  | .rdExtPort6 _ => true
  | .rdExtPort7 _ => true
  | .rdDiagConst _ => true
  | .rdDiag1 _ => true
  | .rdDiag2 _ => true
  | .rdDiag3 _ => true
  | .rdDiag4 _ => true
  | .rdDiag5 _ => true
  | .rdDiag6 _ => true
  | .wrReset value => valueFits value
  | .wrLedGreen value => valueFits value
  | .wrLedB value => valueFits value
  | .wrLedC value => valueFits value
  | .wrMotor1 value => valueFits value
  | .wrMotor2 value => valueFits value
  | .wrMotor3 value => valueFits value
  | .wrMotor4 value => valueFits value
  | .wrMotor5 value => valueFits value
  | .wrMotor6 value => valueFits value
  | .wrMotor7 value => valueFits value
  | .wrMotor8 value => valueFits value
  | .wrServo1 value => valueFits value
  | .wrServo2 value => valueFits value
  | .wrServo3 value => valueFits value
  | .wrServo4 value => valueFits value
  | .wrServo5 value => valueFits value
  | .wrServo6 value => valueFits value
  | .wrServo7 value => valueFits value
  | .wrServo8 value => valueFits value
  | .wrCtrl1 value => valueFits value
  | .wrCtrl2 value => valueFits value
  | .wrCtrl3 value => valueFits value
  | .wrCtrl4 value => valueFits value
  | .wrCtrl5 value => valueFits value
  | .wrCtrl6 value => valueFits value
  | .wrCtrl7 value => valueFits value
  | .rdUnknown key _ => !key.msb && !listedRead key
  | .wrUnknown key value => key.msb && !listedWrite key && valueFits value

end Sys2Proof
end

