-- ==== Sys2Proof/Safety.lean ====
section
/-! DEFINITION. What counts as a safe run, in the terms that claims use: the invariants of 10_state R40, the canonical form
of the platform's entries, the host's preconditions of 70_reset_and_hazards R316 to R320, the schedule of a well-behaved
host (30_encoding R90, 95_test_vectors section 7), and what it means that a frame has been served. -/

namespace Sys2Proof.Machine

/-! ### The canonical form of the platform's entries -/

/-- An added entry stands under an unlisted key, has a width of 1 to 65535 bits (R32) and a pattern of that width; only a
read-only entry mirrors another register (log 10). -/
def PlatformEntry.wf (p : PlatformEntry) : Bool :=
  (mapEntry p.key).isNone && decide (1 ≤ p.width) && decide (p.width ≤ 65535)
    && decide (p.pattern < 2 ^ p.width) && (p.mirrors.isNone || p.direction == .readOnly)

/-- The keys of the entries strictly rise. -/
def keysRise : List PlatformEntry → Bool
  | p :: q :: rest => p.key.ult q.key && keysRise (q :: rest)
  | _ => true

/-- The canonical form of the one sparse map of the machine (log 17). -/
def platformWf (ps : List PlatformEntry) : Bool := keysRise ps && ps.all PlatformEntry.wf

/-- What is fixed of the table: every column of the added entries but the pattern. -/
def tableColumns (ps : List PlatformEntry) : List (Word × Nat × Signedness × Direction × Option Word) :=
  ps.map (fun p => (p.key, p.width, p.signedness, p.direction, p.mirrors))

/-! ### The invariants of R40 -/

/-- The invariants of R40 (b) to (e), what R152 to R157 add about the key of each state and R122, R126 about the bit
counters of a deselected link, and the canonical form of the platform's entries. -/
structure Inv (s : State) : Prop where
  /-- R27: a bit position that is a multiple of 8 -/
  aligned : s.offset.toNat % 8 = 0
  /-- R40 (b) -/
  inValue : s.phase = .masterRead ∨ s.phase = .masterWrite →
    s.offset.toNat + 8 ≤ 8 * s.length.toNat
  /-- R152: these two states hold a key with bit 7 = 0 -/
  readPhase : s.phase = .getReadLength ∨ s.phase = .masterRead → isWriteKey s.key = false
  /-- R152: these two states hold a key with bit 7 = 1 -/
  writePhase : s.phase = .getWriteLength ∨ s.phase = .masterWrite → isWriteKey s.key = true
  /-- R40 (c), R153 -/
  readRequest : s.evt = .readReq →
    s.phase = .getReadLength ∧ s.length ≠ 0#8 ∧ s.offset = offsetOf s.length
  /-- R40 (c), R154, R155 -/
  writeComplete : s.evt = .writeDone →
    (s.phase = .getWriteLength ∧ s.length = 0#8) ∨ (s.phase = .masterWrite ∧ s.offset = 0#11)
  /-- R40 (d) -/
  lastByte : s.rdLast = true → s.phase = .masterRead ∧ s.offset = 0#11
  /-- R40 (e) -/
  queue : s.txPendingValid = true → s.linkDesel = false
  /-- R122, R126, R127: a deselected link stands at a Word boundary in both directions -/
  boundaries : s.linkDesel = true → s.rxCnt = 0#3 ∧ s.txCnt = 0#3
  /-- the platform's entries are in canonical form -/
  table : platformWf s.platform = true

/-- Between frames inside a selection: the decoder in `ReadKey`, no event and no flag pending, both counters at a Word
boundary, nothing queued (R105, R313). -/
structure Idle (s : State) : Prop where
  selected : s.linkDesel = false
  readKey : s.phase = .readKey
  noEvent : s.evt = .none
  noWord : rxNew s = false
  noAcceptance : txNew s = false
  rxBoundary : s.rxCnt = 0#3
  txBoundary : s.txCnt = 0#3
  emptyQueue : s.txPendingValid = false
  notLast : s.rdLast = false
  noPulse : s.globalReset = false

/-! ### The host's preconditions -/

/-- The condition under which a link event meets what R316 to R320 buy: at the eighth `Fall` of a Word the Word before it
has been observed and its event serviced (R316) and an acceptance of the slot has been observed (R319); at the first
`Rise` after the length byte of a read the first value byte has been submitted (R317); at a `Deselect` the write-complete
of a finished write frame has been raised (R319); at a `Select` the deselection has been observed (R320). `step` does not
assume it: a run that breaks it does what the rules say (R318, 93_implementation_defined U8; log 14). -/
def onTime (e : Input) (s : State) : Bool :=
  match e with
  | .fall _ => s.linkDesel || s.rxCnt != 7#3 || (!rxNew s && s.evt == .none && !txNew s)
  | .rise =>
    s.linkDesel || s.txCnt != 0#3 || s.phase != .getReadLength ||
      (s.evt == .none && (!rxNew s || s.rxWord == 0#8))
  | .deselect =>
    !rxNew s || !(s.phase == .masterWrite && s.offset == 0#11
      || s.phase == .getWriteLength && s.rxWord == 0#8)
  | .select => !s.linkDesel || (s.phase == .readKey && s.evt == .none && !rxNew s && !txNew s)
  | .tick => true
  | .periph _ _ => true

/-! ### A well-behaved host -/

/-- The events of one link-clock period in which the host sends the bit `b`, with `k` ticks after each (R90). -/
def wireBit (k : Nat) (b : Bool) : List Input :=
  .rise :: List.replicate k .tick ++ .fall b :: List.replicate k .tick

/-- The bits of a Word in the order of the wire, bit 7 first (R61, R90). -/
def wireOrder (w : Word) : List Bool :=
  [w.getLsbD 7, w.getLsbD 6, w.getLsbD 5, w.getLsbD 4, w.getLsbD 3, w.getLsbD 2, w.getLsbD 1, w.getLsbD 0]

/-- The slots in which the host sends these Words, with `k` ticks after each link event; `k` = 2 meets R316 to R320
(95_test_vectors section 7). -/
def wireWords (k : Nat) (words : List Word) : List Input :=
  (words.flatMap wireOrder).flatMap (wireBit k)

/-- What the host sees on `link_out`: the bit driven at each `Rise` of the next `n` steps. -/
def hostSees : Nat → State → List Bool
  | 0, _ => []
  | n + 1, s =>
    match step s with
    | .next t => (if s.inputs.head? = some .rise then [t.linkOut] else []) ++ hostSees n t
    | _ => []

/-! ### What it means that a frame has been served -/

/-- The machine goes on with a state that satisfies `P`. -/
def completes (r : Result) (P : State → Prop) : Prop := ∃ t, r = .next t ∧ P t

/-- `new` is the pattern that a write of `value` leaves where `old` stood: bit `j` is bit `j` of the value where the
value reaches, else what it was (R186, R189, R190). -/
def takesValue {w : Nat} (old new : BitVec w) (value : List Word) : Prop :=
  ∀ j, j < w → new.getLsbD j = if j < 8 * value.length then (valueOf value).getLsbD j else old.getLsbD j

/-- The window of `L` bytes of `new` is that of `x`, and the rest of the buffer is as in `old` (R28, R193). -/
def takesWindow (old new : Value) (L : Nat) (x : Value) : Prop :=
  ∀ j, j < 64 → new.getLsbD j = if j < 8 * L then x.getLsbD j else old.getLsbD j

/-- The read frame `i`, which is `key, len` with `len` from 1 on, serviced while selected: the window holds `x`, the
decoder is in `MasterRead` with the offset at the first value byte, that byte is submitted (a draw where the buffer does
not reach), and NOTHING ELSE of the state has changed (R69, R156, R193). -/
def readServed (i : Instr) (key len : Word) (x : Value) (s : State) : Prop :=
  completes (exec i s) (fun t =>
    takesWindow s.vbuf t.vbuf len.toNat x ∧
    t.offset.toNat = 8 * (len.toNat - 1) ∧
    (len.toNat ≤ 8 → t.draws = s.draws ∧ ∀ b, b < 8 →
      t.txPending.getLsbD b = x.getLsbD (8 * (len.toNat - 1) + b)) ∧
    t = { s with
      key := key, length := len, offset := t.offset, vbuf := t.vbuf
      phase := .masterRead, evt := .none, rdLast := false
      txPending := t.txPending, txPendingValid := true
      globalReset := false, draws := t.draws })

/-- The write frame `i`, which is `key, value`, serviced while selected: the decoder is in `ReadKey`, the register file is
`regs`, the window holds the value, and NOTHING ELSE of the state has changed (R157, R186, R193). -/
def writeServed (i : Instr) (key : Word) (value : List Word) (regs : Registers) (s : State) : Prop :=
  completes (exec i s) (fun t =>
    takesWindow s.vbuf t.vbuf value.length (valueOf value) ∧
    t = { s with
      key := key, length := BitVec.ofNat 8 value.length, offset := 0#11, vbuf := t.vbuf
      phase := .readKey, evt := .none, globalReset := false, regs := regs })

/-- The well-formed frame `i` is the write frame of `value` to its key (R95). -/
def isWriteFrame (i : Instr) (value : List Word) : Prop :=
  i.wellFormed = true ∧ isWriteKey i.key = true ∧ encode i = writeWords i.key value

/-- A value of 1 to 8 bytes: what a conforming host writes (R103, R324). -/
def conforming (value : List Word) : Prop := 1 ≤ value.length ∧ value.length ≤ 8

end Sys2Proof.Machine
end

