-- ==== Sys2Proof/Certificates/Slice0/Obligations.lean ====
section
/-! DEFINITION. The statements for the provers. They speak of the machine, never of a program. -/

open Sys2Proof Sys2Proof.Machine

/-- Decoding the Words of a well-formed frame gives the frame back (30_encoding.md R91, R94, R95, R99, R100, R106). -/
def Obligations.DecodeOfEncode : Prop :=
  ∀ (i : Instr) (rest : List Word), i.wellFormed = true → decode (encode i ++ rest) = .ok (i, rest)

/-- What the decoder reads is well-formed and encodes to the Words it was read from (30_encoding.md R91, R98, R100,
R106). -/
def Obligations.EncodeOfDecode : Prop :=
  ∀ (i : Instr) (words rest : List Word), decode words = .ok (i, rest) →
    i.wellFormed = true ∧ encode i ++ rest = words

/-- No key is illegal: every key and length with its value bytes decodes (30_encoding.md R101). -/
def Obligations.EveryKeyIsAFrame : Prop :=
  ∀ (key len : Word) (rest : List Word), len.toNat ≤ rest.length →
    ∃ i left, decode (key :: len :: rest) = .ok (i, left) ∧ i.key = key

/-- Four frames written out bit by bit decode to the frames they stand for (30_encoding.md R94, R95, R99). -/
def Obligations.SampleWordsDecode : Prop :=
  decode [0b01000010#8, 0b00000100#8] = .ok (.rdDiagConst 4#8, []) ∧
    decode [0b10010001#8, 0b00000010#8, 0b00000000#8, 0b00001010#8] = .ok (.wrMotor1 [0#8, 10#8], []) ∧
    decode [0b00011001#8, 0b00000010#8] = .ok (.rdUnknown 0x19#8 2#8, []) ∧
    decode [0b10011001#8, 0b00000001#8, 0b01010101#8] = .ok (.wrUnknown 0x99#8 [0x55#8], [])

/-- A step that is a tick runs the decoded frame that is due (41_frame_decoder.md R150, R153, R156, R157). -/
def Obligations.StepRunsTheFrameThatIsDue : Prop :=
  ∀ (s u : State) (words rest : List Word) (i : Instr),
    (s.globalReset = false → s.inputs = [] → frameDue s = some (u, words) → decode words = .ok (i, rest) →
      step s = exec i u) ∧
    (∀ more, s.globalReset = false → s.inputs = .tick :: more →
      frameDue { s with inputs := more } = some (u, words) → decode words = .ok (i, rest) → step s = exec i u)

/-- Every step of every state answers a next state: nothing faults or is refused, not even an overlong write (the
model's choice, log 7) (60_exceptions.md R280, 41_frame_decoder.md R164). R195 and U3 call a write of 9 to 255 bytes
to a writable key refused; that it runs, with a free value, is the model's DESIGN CHOICE of log 7 and stands in no
rule. -/
def Obligations.StepNeverStops : Prop :=
  (∀ s : State, completes (step s) (fun _ => True)) ∧
    (∀ (i : Instr) (s : State), completes (exec i s) (fun _ => True))

/-- A tick, with the frame fetched, decoded and executed, is the step function of R151 (41_frame_decoder.md R150,
R151, 42_register_dispatch.md R181, R186, R193). -/
def Obligations.TickIsTheStepFunction : Prop :=
  ∀ s : State, s.globalReset = false → tick s = .next (decoderTick s)

/-- Every step keeps the invariants of R40 and the canonical form of the table (10_state.md R40, 41_frame_decoder.md
R152 to R160). -/
def Obligations.StepKeepsTheInvariants : Prop :=
  ∀ s t : State, Inv s → step s = .next t → Inv t

/-- The state after reset has the invariants (10_state.md R40, R41). -/
def Obligations.ResetHasTheInvariants : Prop :=
  Inv State.reset

/-- After reset the machine is idle and nothing is pending (10_state.md R41, 70_reset_and_hazards.md R311). -/
def Obligations.ResetIsIdle : Prop :=
  State.reset.phase = .readKey ∧ State.reset.evt = .none ∧ State.reset.rdLast = false ∧ State.reset.offset = 0#11 ∧
    State.reset.rxCnt = 0#3 ∧ State.reset.txCnt = 0#3 ∧ State.reset.txPendingValid = false ∧
    State.reset.rxToggle = false ∧ State.reset.txToggle = false ∧ State.reset.rxSeen = false ∧
    State.reset.txSeen = false ∧ State.reset.globalReset = false

/-- No step changes the table: keys, widths, signedness and directions stay (10_state.md R32, R39, R43). -/
def Obligations.TableIsNeverMutated : Prop :=
  ∀ s t : State, step s = .next t → tableColumns t.platform = tableColumns s.platform

/-- The register file changes only at the tick that services a write-complete (10_state.md R33, 20_memory.md R68,
60_exceptions.md R284). -/
def Obligations.RegistersChangeOnlyAtAService : Prop :=
  ∀ s t : State, s.evt ≠ .writeDone → s.globalReset = false → step s = .next t → t.regs = s.regs

/-- Link events leave the decoder and the registers alone, and a tick leaves the link side alone (60_exceptions.md
R295, 20_memory.md R74). -/
def Obligations.EachAgentWritesItsOwnState : Prop :=
  (∀ (s t : State) (e : Input) (rest : List Input), s.inputs = e :: rest →
      (e = .select ∨ e = .deselect ∨ e = .rise ∨ ∃ b, e = .fall b) → step s = .next t →
      t.phase = s.phase ∧ t.key = s.key ∧ t.length = s.length ∧ t.offset = s.offset ∧ t.vbuf = s.vbuf ∧
      t.rxSeen = s.rxSeen ∧ t.txSeen = s.txSeen ∧ t.evt = s.evt ∧ t.rdLast = s.rdLast ∧
      t.globalReset = s.globalReset ∧ t.regs = s.regs ∧ t.periph = s.periph ∧ t.platform = s.platform ∧
      t.txPending = s.txPending) ∧
    (∀ s t : State, s.globalReset = false → tick s = .next t →
      t.linkDesel = s.linkDesel ∧ t.linkOut = s.linkOut ∧ t.rxShift = s.rxShift ∧ t.rxCnt = s.rxCnt ∧
      t.rxWord = s.rxWord ∧ t.txShift = s.txShift ∧ t.txCnt = s.txCnt ∧ t.rxToggle = s.rxToggle ∧
      t.txToggle = s.txToggle ∧ t.periph = s.periph ∧ (s.txPendingValid = true → t.txPendingValid = true))

/-- Select clears link_desel and changes nothing else (R122). -/
def Obligations.SelectOnlySelects : Prop :=
  ∀ (s : State) (rest : List Input), s.inputs = .select :: rest →
    step s = .next { s with inputs := rest, linkDesel := false } ∧
    (s.linkDesel = false → step s = .next { s with inputs := rest }) ∧
    (Inv s → s.linkDesel = true → s.rxCnt = 0#3 ∧ s.txCnt = 0#3)

/-- Edges while deselected change nothing (40_serial_engine.md R127). That both halves are held reset for as long as
the link is deselected is a choice: R127 calls it the spec's reading (decision D6), and log 5 (DEDUCED) takes it. -/
def Obligations.EdgesWhileDeselectedChangeNothing : Prop :=
  ∀ (s : State) (rest : List Input), s.linkDesel = true →
    (s.inputs = .rise :: rest → step s = .next { s with inputs := rest }) ∧
    (∀ b, s.inputs = .fall b :: rest → step s = .next { s with inputs := rest })

/-- Fall shifts one bit in; the eighth completes a Word and inverts the receive flag (40_serial_engine.md R123, R127).
The clause on a deselected link rests on decision D6 (log 5, DEDUCED). -/
def Obligations.FallSamplesOneBit : Prop :=
  ∀ (s : State) (b : Bool) (rest : List Input), s.inputs = .fall b :: rest →
    (s.linkDesel = true → step s = .next { s with inputs := rest }) ∧
    (s.linkDesel = false → ∃ w : Word,
      w.getLsbD 0 = b ∧ (∀ j, j < 7 → w.getLsbD (j + 1) = s.rxShift.getLsbD j) ∧
      (s.rxCnt = 7#3 → step s = .next
        { s with inputs := rest, rxShift := w, rxWord := w, rxToggle := !s.rxToggle, rxCnt := 0#3 }) ∧
      (s.rxCnt ≠ 7#3 → step s = .next
        { s with inputs := rest, rxShift := w, rxCnt := s.rxCnt + 1#3 }))

/-- Rise drives one bit; the first of a slot latches the queued Word and inverts the transmit flag
(40_serial_engine.md R124, R127, R133). The clause on a deselected link rests on decision D6 (log 5, DEDUCED). -/
def Obligations.RiseDrivesOneBit : Prop :=
  ∀ (s : State) (rest : List Input), s.inputs = .rise :: rest →
    (s.linkDesel = true → step s = .next { s with inputs := rest }) ∧
    (s.linkDesel = false → s.txCnt = 0#3 → s.txPendingValid = true → ∃ sh : Word,
      sh.getLsbD 0 = false ∧ (∀ j, j < 7 → sh.getLsbD (j + 1) = s.txPending.getLsbD j) ∧
      step s = .next { s with
        inputs := rest, linkOut := s.txPending.getLsbD 7, txShift := sh, txCnt := 1#3
        txPendingValid := false, txToggle := !s.txToggle }) ∧
    (s.linkDesel = false → s.txCnt ≠ 0#3 → ∃ sh : Word,
      sh.getLsbD 0 = false ∧ (∀ j, j < 7 → sh.getLsbD (j + 1) = s.txShift.getLsbD j) ∧
      step s = .next { s with
        inputs := rest, linkOut := s.txShift.getLsbD 7, txShift := sh, txCnt := s.txCnt + 1#3 }) ∧
    (s.linkDesel = false → s.txCnt = 0#3 → s.txPendingValid = false → ∃ (cur sh : Word) (d : Nat),
      sh.getLsbD 0 = false ∧ (∀ j, j < 7 → sh.getLsbD (j + 1) = cur.getLsbD j) ∧
      step s = .next { s with
        inputs := rest, linkOut := cur.getLsbD 7, txShift := sh, txCnt := 1#3, draws := d })

/-- Deselect drops the partial Word and the queued Word at once and touches neither flag (40_serial_engine.md R126,
R133, 60_exceptions.md R290). The second clause, that a second Deselect leaves link_out as it was, is the choice of
log 16 (DEDUCED, unsafe), which follows R290 against the pseudocode of R126, where every Deselect draws link_out. -/
def Obligations.DeselectResetsTheLink : Prop :=
  ∀ (s : State) (rest : List Input), s.inputs = .deselect :: rest →
    (∃ (out : Bool) (d : Nat), step s = .next { s with
      inputs := rest, linkDesel := true, rxCnt := 0#3, txCnt := 0#3, txPendingValid := false
      linkOut := out, draws := d }) ∧
    (Inv s → s.linkDesel = true → step s = .next { s with inputs := rest })

/-- A slot of eight clock periods receives one Word and sends the queued one, most significant bit first
(40_serial_engine.md R130, R134, 30_encoding.md R90). -/
def Obligations.SlotMovesOneWordEachWay : Prop :=
  ∀ (s : State) (w : Word) (rest : List Input),
    s.linkDesel = false → s.rxCnt = 0#3 → s.txCnt = 0#3 → s.inputs = wireWords 0 [w] ++ rest →
    ∃ t, Host.Core.run Sys2Proof.core 16 s = .next t ∧
      (s.txPendingValid = true → hostSees 16 s = wireOrder s.txPending ∧ t.draws = s.draws) ∧
      t = { s with
        inputs := rest, rxShift := w, rxWord := w, rxToggle := !s.rxToggle, rxCnt := 0#3
        linkOut := t.linkOut, txShift := t.txShift, txCnt := 0#3, txPendingValid := false
        txToggle := if s.txPendingValid then !s.txToggle else s.txToggle, draws := t.draws }

/-- In ReadKey a completed Word becomes the key and its bit 7 chooses the next state (R152). -/
def Obligations.KeyWordChoosesTheFormat : Prop :=
  ∀ s : State, s.globalReset = false → s.linkDesel = false → s.evt = .none → s.phase = .readKey →
    rxNew s = true →
    tick s = .next { s with
      key := s.rxWord
      phase := if s.rxWord.getLsbD 7 then .getWriteLength else .getReadLength
      rxSeen := s.rxToggle, txSeen := s.txToggle }

/-- In GetReadLength a nonzero length raises the read-request, a zero length ends the frame (41_frame_decoder.md R153,
R163). -/
def Obligations.LengthWordOfARead : Prop :=
  ∀ s : State, s.globalReset = false → s.linkDesel = false → s.evt = .none → s.phase = .getReadLength →
    rxNew s = true →
    (s.rxWord = 0#8 → tick s = .next { s with
      length := 0#8, phase := .readKey, rxSeen := s.rxToggle, txSeen := s.txToggle }) ∧
    (s.rxWord ≠ 0#8 → ∃ o : Offset, o.toNat = 8 * (s.rxWord.toNat - 1) ∧ tick s = .next { s with
      length := s.rxWord, offset := o, evt := .readReq, rxSeen := s.rxToggle, txSeen := s.txToggle })

/-- In GetWriteLength a zero length raises the write-complete, any other opens the value (41_frame_decoder.md R154,
R163). -/
def Obligations.LengthWordOfAWrite : Prop :=
  ∀ s : State, s.globalReset = false → s.linkDesel = false → s.evt = .none → s.phase = .getWriteLength →
    rxNew s = true →
    (s.rxWord = 0#8 → tick s = .next { s with
      length := 0#8, evt := .writeDone, rxSeen := s.rxToggle, txSeen := s.txToggle }) ∧
    (s.rxWord ≠ 0#8 → ∃ o : Offset, o.toNat = 8 * (s.rxWord.toNat - 1) ∧ tick s = .next { s with
      length := s.rxWord, offset := o, phase := .masterWrite, rxSeen := s.rxToggle, txSeen := s.txToggle })

/-- In MasterWrite a completed Word is stored at the offset; the last raises the write-complete (41_frame_decoder.md
R155). -/
def Obligations.ValueWordIsStoredAtTheOffset : Prop :=
  ∀ s : State, s.globalReset = false → s.linkDesel = false → s.evt = .none → s.phase = .masterWrite →
    rxNew s = true → ∃ v : Value,
    (∀ j, j < 64 → v.getLsbD j =
      if s.offset.toNat ≤ j ∧ j < s.offset.toNat + 8 then s.rxWord.getLsbD (j - s.offset.toNat)
      else s.vbuf.getLsbD j) ∧
    (s.offset = 0#11 → tick s = .next { s with
      vbuf := v, evt := .writeDone, rxSeen := s.rxToggle, txSeen := s.txToggle }) ∧
    (s.offset ≠ 0#11 → tick s = .next { s with
      vbuf := v, offset := s.offset - 8#11, rxSeen := s.rxToggle, txSeen := s.txToggle })

/-- Outside MasterRead a pending acceptance only updates the seen-copy (41_frame_decoder.md R161). -/
def Obligations.AcceptanceOutsideMasterReadIsOnlySeen : Prop :=
  ∀ s : State, s.globalReset = false → s.linkDesel = false → s.evt = .none → s.phase ≠ .masterRead →
    tick s = tick { s with txSeen := s.txToggle } ∧
    (rxNew s = false → tick s = .next { s with txSeen := s.txToggle })

/-- In MasterRead an acceptance submits the next value byte, or marks the last one (41_frame_decoder.md R158, R159).
-/
def Obligations.AcceptanceSubmitsTheNextByte : Prop :=
  ∀ s : State, s.globalReset = false → s.linkDesel = false → s.evt = .none → s.phase = .masterRead →
    s.rdLast = false → txNew s = true → s.offset.toNat % 8 = 0 →
    (s.offset = 0#11 → tick s = .next { s with
      rdLast := true, rxSeen := s.rxToggle, txSeen := s.txToggle }) ∧
    (s.offset ≠ 0#11 → ∃ (o : Offset) (b : Word) (d : Nat), o.toNat + 8 = s.offset.toNat ∧
      (o.toNat < 64 → d = s.draws ∧ ∀ j, j < 8 → b.getLsbD j = s.vbuf.getLsbD (o.toNat + j)) ∧
      tick s = .next { s with
        offset := o, txPending := b, txPendingValid := true, draws := d
        rxSeen := s.rxToggle, txSeen := s.txToggle })

/-- In MasterRead a received Word is dropped, and ends the frame once the last byte was accepted (41_frame_decoder.md
R159). -/
def Obligations.WordEndsAReadFrame : Prop :=
  ∀ s : State, s.globalReset = false → s.linkDesel = false → s.evt = .none → s.phase = .masterRead →
    rxNew s = true → txNew s = false →
    tick s = .next { s with
      phase := if s.rdLast then .readKey else .masterRead, rdLast := false
      rxSeen := s.rxToggle, txSeen := s.txToggle }

/-- A tick with no event and no flag showing work changes nothing (41_frame_decoder.md R150, R164, 60_exceptions.md
R298). -/
def Obligations.QuietTickChangesNothing : Prop :=
  ∀ s : State, s.globalReset = false → s.linkDesel = false → s.evt = .none → rxNew s = false → txNew s = false →
    tick s = .next s

/-- A deselected tick with no event pending returns to ReadKey from every state and raises nothing
(41_frame_decoder.md R160, 60_exceptions.md R288, R289). -/
def Obligations.DeselectionCancelsInEveryState : Prop :=
  ∀ s : State, s.globalReset = false → s.linkDesel = true → s.evt = .none →
    tick s = .next { s with
      phase := .readKey, offset := 0#11, evt := .none, rdLast := false
      rxSeen := s.rxToggle, txSeen := s.txToggle }

/-- An event is raised exactly when a frame qualifies, and is gone one tick later (41_frame_decoder.md R162,
20_memory.md R73). -/
def Obligations.EventsAreRaisedAndServicedOnce : Prop :=
  ∀ s t : State, s.globalReset = false → tick s = .next t →
    (t.evt = .readReq ↔ s.linkDesel = false ∧ s.evt = .none ∧ s.phase = .getReadLength ∧ rxNew s = true ∧
      s.rxWord ≠ 0#8) ∧
    (t.evt = .writeDone ↔ s.linkDesel = false ∧ s.evt = .none ∧ rxNew s = true ∧
      ((s.phase = .getWriteLength ∧ s.rxWord = 0#8) ∨ (s.phase = .masterWrite ∧ s.offset = 0#11)))

/-- Two ticks observe any Word and any acceptance that was pending (70_reset_and_hazards.md R316, 40_serial_engine.md
R131). -/
def Obligations.TwoTicksObserveEveryWord : Prop :=
  ∀ s t u : State, tick s = .next t → tick t = .next u → rxNew u = false ∧ txNew u = false

/-- Two ticks after the length byte of a read its first value byte is queued (70_reset_and_hazards.md R317,
41_frame_decoder.md R153, R156). That the bytes above the register read as zero is a choice: READ_FILL is zero by
decision D13, U1 lets a model vary it, and log 12 (DEDUCED, unsafe) takes zero. -/
def Obligations.ReadTurnaroundTakesTwoTicks : Prop :=
  ∀ s : State, s.globalReset = false → s.linkDesel = false → s.evt = .none → s.phase = .getReadLength →
    s.txPendingValid = false → isWriteKey s.key = false → rxNew s = true → 1 ≤ s.rxWord.toNat → s.rxWord.toNat ≤ 8 →
    ∃ t u, tick s = .next t ∧ t.txPendingValid = false ∧ tick t = .next u ∧ u.phase = .masterRead ∧
      u.offset.toNat = 8 * (s.rxWord.toNat - 1) ∧ u.txPendingValid = true ∧
      ∀ b, b < 8 → u.txPending.getLsbD b =
        (readValue s s.key).getLsbD (8 * (s.rxWord.toNat - 1) + b)

/-- RD.ODO_COUNT1 to RD.ODO_COUNT6 fill the window from their counts and change no register (43_register_map.md R211
to R216, 42_register_dispatch.md R181, R183, R184, R185). That the bytes above the register read as zero is a choice:
READ_FILL is zero by decision D13, U1 lets a model vary it, and log 12 (DEDUCED, unsafe) takes zero. -/
def Obligations.OdoCountReadsAreServed : Prop :=
  ∀ (s : State) (len : Word), s.linkDesel = false → len ≠ 0#8 →
    readServed (.rdOdoCount1 len) 0x11#8 len (s.periph.odoCount1.setWidth 64) s ∧
    readServed (.rdOdoCount2 len) 0x12#8 len (s.periph.odoCount2.setWidth 64) s ∧
    readServed (.rdOdoCount3 len) 0x13#8 len (s.periph.odoCount3.setWidth 64) s ∧
    readServed (.rdOdoCount4 len) 0x14#8 len (s.periph.odoCount4.setWidth 64) s ∧
    readServed (.rdOdoCount5 len) 0x15#8 len (s.periph.odoCount5.setWidth 64) s ∧
    readServed (.rdOdoCount6 len) 0x16#8 len (s.periph.odoCount6.setWidth 64) s

/-- RD.ODO_SPEED1 to RD.ODO_SPEED6 fill the window from their speeds and change no register (43_register_map.md R217
to R222, 42_register_dispatch.md R181, R183, R184, R185). That the bytes above the register read as zero is a choice:
READ_FILL is zero by decision D13, U1 lets a model vary it, and log 12 (DEDUCED, unsafe) takes zero. -/
def Obligations.OdoSpeedReadsAreServed : Prop :=
  ∀ (s : State) (len : Word), s.linkDesel = false → len ≠ 0#8 →
    readServed (.rdOdoSpeed1 len) 0x21#8 len (s.periph.odoSpeed1.setWidth 64) s ∧
    readServed (.rdOdoSpeed2 len) 0x22#8 len (s.periph.odoSpeed2.setWidth 64) s ∧
    readServed (.rdOdoSpeed3 len) 0x23#8 len (s.periph.odoSpeed3.setWidth 64) s ∧
    readServed (.rdOdoSpeed4 len) 0x24#8 len (s.periph.odoSpeed4.setWidth 64) s ∧
    readServed (.rdOdoSpeed5 len) 0x25#8 len (s.periph.odoSpeed5.setWidth 64) s ∧
    readServed (.rdOdoSpeed6 len) 0x26#8 len (s.periph.odoSpeed6.setWidth 64) s

/-- RD.EXT_PORT1 to RD.EXT_PORT7 fill the window from their ports and change no register (43_register_map.md R223 to
R229, 42_register_dispatch.md R181, R183, R185). That the bytes above the register read as zero is a choice: READ_FILL
is zero by decision D13, U1 lets a model vary it, and log 12 (DEDUCED, unsafe) takes zero. -/
def Obligations.ExtPortReadsAreServed : Prop :=
  ∀ (s : State) (len : Word), s.linkDesel = false → len ≠ 0#8 →
    readServed (.rdExtPort1 len) 0x31#8 len (s.periph.extPort1.setWidth 64) s ∧
    readServed (.rdExtPort2 len) 0x32#8 len (s.periph.extPort2.setWidth 64) s ∧
    readServed (.rdExtPort3 len) 0x33#8 len (s.periph.extPort3.setWidth 64) s ∧
    readServed (.rdExtPort4 len) 0x34#8 len (s.periph.extPort4.setWidth 64) s ∧
    readServed (.rdExtPort5 len) 0x35#8 len (s.periph.extPort5.setWidth 64) s ∧
    readServed (.rdExtPort6 len) 0x36#8 len (s.periph.extPort6.setWidth 64) s ∧
    readServed (.rdExtPort7 len) 0x37#8 len (s.periph.extPort7.setWidth 64) s

/-- RD.DIAG_CONST answers 0xDEADC0DE and RD.DIAG1 to RD.DIAG6 their registers (43_register_map.md R230 to R236,
42_register_dispatch.md R181, R183, R185). That the bytes above the register read as zero is a choice: READ_FILL is
zero by decision D13, U1 lets a model vary it, and log 12 (DEDUCED, unsafe) takes zero. -/
def Obligations.DiagnosticReadsAreServed : Prop :=
  ∀ (s : State) (len : Word), s.linkDesel = false → len ≠ 0#8 →
    readServed (.rdDiagConst len) 0x42#8 len 0x00000000DEADC0DE#64 s ∧
    readServed (.rdDiag1 len) 0x71#8 len (s.periph.diag1.setWidth 64) s ∧
    readServed (.rdDiag2 len) 0x72#8 len (s.periph.diag2.setWidth 64) s ∧
    readServed (.rdDiag3 len) 0x73#8 len (s.periph.diag3.setWidth 64) s ∧
    readServed (.rdDiag4 len) 0x74#8 len (s.periph.diag4.setWidth 64) s ∧
    readServed (.rdDiag5 len) 0x75#8 len (s.periph.diag5.setWidth 64) s ∧
    readServed (.rdDiag6 len) 0x76#8 len (s.periph.diag6.setWidth 64) s

/-- RD.UNKNOWN answers with the low bytes of 0xDEADBEEFBAADF00D (42_register_dispatch.md R182, 43_register_map.md
R264, 60_exceptions.md R281). -/
def Obligations.UnknownReadsAnswerTheSentinel : Prop :=
  ∀ (s : State) (key len : Word), s.linkDesel = false → len ≠ 0#8 → s.platformEntry key = none →
    readServed (.rdUnknown key len) key len 0xDEADBEEFBAADF00D#64 s

/-- A read of an added entry answers with its register, an added write-only entry with the sentinel (form of the
table: log 10) (43_register_map.md R266, 42_register_dispatch.md R194, R196). That the bytes above the register read
as zero is a choice: READ_FILL is zero by decision D13, U1 lets a model vary it, and log 12 (DEDUCED, unsafe) takes
zero. -/
def Obligations.AddedEntriesAreRead : Prop :=
  ∀ (s : State) (key len : Word) (p : PlatformEntry), s.linkDesel = false → len ≠ 0#8 →
    s.platformEntry key = some p →
    (p.direction = .writeOnly → readServed (.rdUnknown key len) key len 0xDEADBEEFBAADF00D#64 s) ∧
    (p.direction ≠ .writeOnly → readServed (.rdUnknown key len) key len (s.platformGet p) s)

/-- WR.LED_GREEN, WR.LED_B and WR.LED_C set their bit to bit 0 of the value (43_register_map.md R238, R239, R240,
42_register_dispatch.md R186, R190, R192). -/
def Obligations.LedWritesAreServed : Prop :=
  ∀ (s : State) (value : List Word), s.linkDesel = false → conforming value →
    (∃ p, takesValue s.regs.ledGreen p value ∧
      writeServed (.wrLedGreen value) 0x82#8 value { s.regs with ledGreen := p } s) ∧
    (∃ p, takesValue s.regs.ledB p value ∧
      writeServed (.wrLedB value) 0x83#8 value { s.regs with ledB := p } s) ∧
    (∃ p, takesValue s.regs.ledC p value ∧
      writeServed (.wrLedC value) 0x84#8 value { s.regs with ledC := p } s)

/-- WR.MOTOR1 to WR.MOTOR8 write their speed register, truncating or merging (43_register_map.md R241 to R248,
42_register_dispatch.md R186, R189, R190). That a write shorter than the register keeps the bits above the value is a
choice: SHORT_WRITE is merge by decision D15, U2 lets a model vary it, and log 13 (DEDUCED, unsafe) takes the merge.
-/
def Obligations.MotorWritesAreServed : Prop :=
  ∀ (s : State) (value : List Word), s.linkDesel = false → conforming value →
    (∃ p, takesValue s.regs.motor1 p value ∧
      writeServed (.wrMotor1 value) 0x91#8 value { s.regs with motor1 := p } s) ∧
    (∃ p, takesValue s.regs.motor2 p value ∧
      writeServed (.wrMotor2 value) 0x92#8 value { s.regs with motor2 := p } s) ∧
    (∃ p, takesValue s.regs.motor3 p value ∧
      writeServed (.wrMotor3 value) 0x93#8 value { s.regs with motor3 := p } s) ∧
    (∃ p, takesValue s.regs.motor4 p value ∧
      writeServed (.wrMotor4 value) 0x94#8 value { s.regs with motor4 := p } s) ∧
    (∃ p, takesValue s.regs.motor5 p value ∧
      writeServed (.wrMotor5 value) 0x95#8 value { s.regs with motor5 := p } s) ∧
    (∃ p, takesValue s.regs.motor6 p value ∧
      writeServed (.wrMotor6 value) 0x96#8 value { s.regs with motor6 := p } s) ∧
    (∃ p, takesValue s.regs.motor7 p value ∧
      writeServed (.wrMotor7 value) 0x97#8 value { s.regs with motor7 := p } s) ∧
    (∃ p, takesValue s.regs.motor8 p value ∧
      writeServed (.wrMotor8 value) 0x98#8 value { s.regs with motor8 := p } s)

/-- WR.SERVO1 to WR.SERVO8 write their 16-bit position register, truncating or merging (43_register_map.md R249 to
R256, 42_register_dispatch.md R186, R189, R190). That a write shorter than the register keeps the bits above the value
is a choice: SHORT_WRITE is merge by decision D15, U2 lets a model vary it, and log 13 (DEDUCED, unsafe) takes the
merge. -/
def Obligations.ServoWritesAreServed : Prop :=
  ∀ (s : State) (value : List Word), s.linkDesel = false → conforming value →
    (∃ p, takesValue s.regs.servo1 p value ∧
      writeServed (.wrServo1 value) 0xA1#8 value { s.regs with servo1 := p } s) ∧
    (∃ p, takesValue s.regs.servo2 p value ∧
      writeServed (.wrServo2 value) 0xA2#8 value { s.regs with servo2 := p } s) ∧
    (∃ p, takesValue s.regs.servo3 p value ∧
      writeServed (.wrServo3 value) 0xA3#8 value { s.regs with servo3 := p } s) ∧
    (∃ p, takesValue s.regs.servo4 p value ∧
      writeServed (.wrServo4 value) 0xA4#8 value { s.regs with servo4 := p } s) ∧
    (∃ p, takesValue s.regs.servo5 p value ∧
      writeServed (.wrServo5 value) 0xA5#8 value { s.regs with servo5 := p } s) ∧
    (∃ p, takesValue s.regs.servo6 p value ∧
      writeServed (.wrServo6 value) 0xA6#8 value { s.regs with servo6 := p } s) ∧
    (∃ p, takesValue s.regs.servo7 p value ∧
      writeServed (.wrServo7 value) 0xA7#8 value { s.regs with servo7 := p } s) ∧
    (∃ p, takesValue s.regs.servo8 p value ∧
      writeServed (.wrServo8 value) 0xA8#8 value { s.regs with servo8 := p } s)

/-- WR.CTRL1 to WR.CTRL7 write their control-loop register, truncating or merging (43_register_map.md R257 to R263,
42_register_dispatch.md R186, R189, R190). That a write shorter than the register keeps the bits above the value is a
choice: SHORT_WRITE is merge by decision D15, U2 lets a model vary it, and log 13 (DEDUCED, unsafe) takes the merge.
-/
def Obligations.ControlWritesAreServed : Prop :=
  ∀ (s : State) (value : List Word), s.linkDesel = false → conforming value →
    (∃ p, takesValue s.regs.ctrl1 p value ∧
      writeServed (.wrCtrl1 value) 0xB1#8 value { s.regs with ctrl1 := p } s) ∧
    (∃ p, takesValue s.regs.ctrl2 p value ∧
      writeServed (.wrCtrl2 value) 0xB2#8 value { s.regs with ctrl2 := p } s) ∧
    (∃ p, takesValue s.regs.ctrl3 p value ∧
      writeServed (.wrCtrl3 value) 0xB3#8 value { s.regs with ctrl3 := p } s) ∧
    (∃ p, takesValue s.regs.ctrl4 p value ∧
      writeServed (.wrCtrl4 value) 0xB4#8 value { s.regs with ctrl4 := p } s) ∧
    (∃ p, takesValue s.regs.ctrl5 p value ∧
      writeServed (.wrCtrl5 value) 0xB5#8 value { s.regs with ctrl5 := p } s) ∧
    (∃ p, takesValue s.regs.ctrl6 p value ∧
      writeServed (.wrCtrl6 value) 0xB6#8 value { s.regs with ctrl6 := p } s) ∧
    (∃ p, takesValue s.regs.ctrl7 p value ∧
      writeServed (.wrCtrl7 value) 0xB7#8 value { s.regs with ctrl7 := p } s)

/-- WR.RESET raises global_reset whatever the value and stores nothing; the next tick ends the pulse
(43_register_map.md R237, 42_register_dispatch.md R192, 10_state.md R34). -/
def Obligations.ResetWritePulses : Prop :=
  ∀ (s : State) (value : List Word), s.linkDesel = false → conforming value →
    completes (exec (.wrReset value) s) (fun t =>
      takesWindow s.vbuf t.vbuf value.length (valueOf value) ∧
      t = { s with
        key := 0x81#8, length := BitVec.ofNat 8 value.length, offset := 0#11, vbuf := t.vbuf
        phase := .readKey, evt := .none, globalReset := true } ∧
      completes (tick t) (fun u => u.globalReset = false))

/-- WR.UNKNOWN takes all its value bytes and changes no register and no output (42_register_dispatch.md R188, R195,
43_register_map.md R265, 60_exceptions.md R282). -/
def Obligations.UnknownWritesAreDiscarded : Prop :=
  ∀ (s : State) (key : Word) (value : List Word), s.linkDesel = false → value ≠ [] → value.length ≤ 255 →
    s.platformEntry key = none → writeServed (.wrUnknown key value) key value s.regs s

/-- A write to an added entry updates its pattern alone, an added read-only entry discards it (form of the table: log
10) (43_register_map.md R266, 42_register_dispatch.md R186, R188, R194). That a write shorter than the register keeps
the bits above the value is a choice: SHORT_WRITE is merge by decision D15, U2 lets a model vary it, and log 13
(DEDUCED, unsafe) takes the merge. -/
def Obligations.AddedEntriesAreWritten : Prop :=
  ∀ (s : State) (key : Word) (value : List Word) (p : PlatformEntry), s.linkDesel = false → conforming value →
    s.platformEntry key = some p →
    (p.direction = .readOnly → writeServed (.wrUnknown key value) key value s.regs s) ∧
    (p.direction ≠ .readOnly → ∃ new : BitVec p.width, takesValue (BitVec.ofNat p.width p.pattern) new value ∧
      completes (exec (.wrUnknown key value) s) (fun t =>
        t.platformEntry key = some { p with pattern := new.toNat } ∧
        (∀ other, other ≠ key → t.platformEntry other = s.platformEntry other) ∧
        takesWindow s.vbuf t.vbuf value.length (valueOf value) ∧
        t = { s with
          key := key, length := BitVec.ofNat 8 value.length, offset := 0#11, vbuf := t.vbuf
          phase := .readKey, evt := .none, globalReset := false, platform := t.platform }))

/-- A write as long as the register or longer leaves the low bits of the value in it, whatever the bytes above
(42_register_dispatch.md R190, R186). That the low bits are taken, with no range check, is decision D16 of the spec
(log 5, DEDUCED). -/
def Obligations.LongWritesTakeTheLowBits : Prop :=
  (∀ (i : Instr) (s : State) (value : List Word) (e : Entry), isWriteFrame i value → conforming value →
      mapEntry i.key = some e → e.accessor ≠ .resetPulse → e.width ≤ 8 * value.length →
      completes (exec i s) (fun t =>
        t.accessorValue e.accessor = ((valueOf value).setWidth e.width).setWidth 64)) ∧
    (∀ (s : State) (key : Word) (value : List Word) (w : Nat) (old : BitVec w), conforming value →
      w ≤ 8 * value.length → (written s key value old).toNat = (valueOf value).toNat % 2 ^ w) ∧
    (∀ s : State,
      completes (exec (.wrServo1 [0xAA#8, 0xBB#8, 0x12#8, 0x34#8]) s) (fun t => t.regs.servo1 = 0x1234#16) ∧
      completes (exec (.wrLedGreen [0x03#8]) s) (fun t => t.regs.ledGreen = 1#1))

/-- A zero-length write raises its event and the service of it changes no register and no output
(42_register_dispatch.md R191, 41_frame_decoder.md R154). That the event is raised and ignored, the reset key
included, is decision D17 of the spec, its resolution of conflict C6, which corrects the source's sentence (log 5,
DEDUCED). -/
def Obligations.ZeroLengthWriteIsANoOp : Prop :=
  ∀ s : State, s.globalReset = false → s.linkDesel = false → s.evt = .none → s.phase = .getWriteLength →
    rxNew s = true → s.rxWord = 0#8 →
    completes (tick s) (fun t => t.evt = .writeDone ∧ t.length = 0#8 ∧ t.key = s.key ∧
      completes (tick t) (fun u => u.evt = .none ∧ u.phase = .readKey ∧
        u.regs = s.regs ∧ u.platform = s.platform ∧ u.periph = s.periph ∧ u.globalReset = false))

/-- A zero-length frame of any key, read or write, changes no register, output or queued byte (30_encoding.md R93,
R102, 42_register_dispatch.md R191, 60_exceptions.md R283). -/
def Obligations.ZeroLengthFramesDoNothing : Prop :=
  ∀ (i : Instr) (s : State), encode i = [i.key, 0#8] → s.linkDesel = false →
    exec i s = .next { s with
      key := i.key, length := 0#8, phase := .readKey, evt := .none, globalReset := false }

/-- A write of more than 8 bytes to a listed key touches its own register alone (the model's choice, log 7)
(42_register_dispatch.md R195, 30_encoding.md R103). -/
def Obligations.OverlongWritesFreeOneRegister : Prop :=
  ∀ (i : Instr) (s : State) (value : List Word) (e : Entry), i.wellFormed = true →
    encode i = writeWords i.key value → isWriteKey i.key = true → 8 < value.length → s.linkDesel = false →
    mapEntry i.key = some e →
    completes (exec i s) (fun t => ∃ f : (w : Nat) → BitVec w → BitVec w,
      (e.accessor ≠ .resetPulse → t.globalReset = false) ∧
      t = { s with
        key := i.key, length := BitVec.ofNat 8 value.length, offset := 0#11, vbuf := valueOf value
        phase := .readKey, evt := .none, globalReset := t.globalReset
        regs := s.regs.update f e.accessor, draws := s.draws + 1 })

/-- A frame serviced while deselected has its full effect on registers and buffer, then is forgotten (60_exceptions.md
R287, R290, 41_frame_decoder.md R150, R160, 42_register_dispatch.md R195). An overlong write to a writable key leaves
free values (log 7), which no claim on two runs may equate (log 6), so the second group of clauses leaves it out. -/
def Obligations.DeselectionDoesNotCancelAService : Prop :=
  ∀ (i : Instr) (s : State), i.wellFormed = true →
    completes (exec i { s with linkDesel := true }) (fun t =>
      completes (exec i { s with linkDesel := false }) (fun u =>
        ((∀ e, s.entry i.key = some e → e.direction.writable = true → (encode i).length ≤ 10) →
          t.regs = u.regs ∧ t.platform = u.platform ∧ t.globalReset = u.globalReset) ∧
        t.vbuf = u.vbuf ∧ t.phase = .readKey ∧ t.offset = 0#11 ∧ t.evt = .none ∧ t.rdLast = false ∧
        t.rxSeen = s.rxToggle ∧ t.txSeen = s.txToggle ∧
        t.txPending = s.txPending ∧ t.txPendingValid = s.txPendingValid))

/-- The meaning of every frame is MemRead or MemWrite of its key through the table (42_register_dispatch.md R180,
R181, R186). -/
def Obligations.MeaningsFollowTheTable : Prop :=
  ∀ (i : Instr) (s : State), i.wellFormed = true →
    (∀ len, isWriteKey i.key = false → encode i = readWords i.key len →
      exec i s = .next (readFrame i.key len (readValue s i.key) s)) ∧
    (∀ value, isWriteKey i.key = true → encode i = writeWords i.key value →
      exec i s = .next (writeFrame i.key value
        (memWrite i.key value.length (window (valueOf value) value.length)) s))

/-- A register read back under another key gives what was written (an added entry that mirrors it: log 10)
(20_memory.md R72, 42_register_dispatch.md R197). That a write shorter than the register keeps the bits above the
value is a choice: SHORT_WRITE is merge by decision D15, U2 lets a model vary it, and log 13 (DEDUCED, unsafe) takes
the merge. That the bytes above the register read as zero is a choice: READ_FILL is zero by decision D13, U1 lets a
model vary it, and log 12 (DEDUCED, unsafe) takes zero. -/
def Obligations.WriteThenReadUnderAnotherKey : Prop :=
  ∀ (s : State) (value : List Word) (key len : Word) (p : PlatformEntry),
    s.linkDesel = false → conforming value → len ≠ 0#8 → s.platformEntry key = some p → p.direction ≠ .writeOnly →
    (∀ (i : Instr) (e : Entry), isWriteFrame i value → mapEntry i.key = some e → e.accessor ≠ .resetPulse →
      p.mirrors = some i.key → ∃ x : Value,
        (∀ j, j < 64 → x.getLsbD j = (decide (j < e.width ∧ j < p.width) &&
          if j < 8 * value.length then (valueOf value).getLsbD j else (s.accessorValue e.accessor).getLsbD j)) ∧
        completes (exec i s) (fun t => readServed (.rdUnknown key len) key len x t)) ∧
    (∀ (target : Word) (q : PlatformEntry), target ≠ key → mapEntry target = none →
      s.platformEntry target = some q → q.direction ≠ .readOnly → p.mirrors = some target → ∃ x : Value,
        (∀ j, j < 64 → x.getLsbD j = (decide (j < q.width ∧ j < p.width) &&
          if j < 8 * value.length then (valueOf value).getLsbD j else q.pattern.testBit j)) ∧
        completes (exec (.wrUnknown target value) s) (fun t => readServed (.rdUnknown key len) key len x t))

/-- A read of a key that is unknown or write-only gives the low bytes of the sentinel, most significant first (R182).
-/
def Obligations.SentinelBytesByLength : Prop :=
  ∀ (s : State) (key : Word), (s.entry key = none ∨ ∃ e, s.entry key = some e ∧ e.direction = .writeOnly) →
    (∀ L j, j < 64 → (memRead s key L).getLsbD j = (decide (j < 8 * L) && (0xDEADBEEFBAADF00D#64).getLsbD j)) ∧
    bytesOf (memRead s key 1) 1 = [0x0D#8] ∧
    bytesOf (memRead s key 2) 2 = [0xF0#8, 0x0D#8] ∧
    bytesOf (memRead s key 3) 3 = [0xAD#8, 0xF0#8, 0x0D#8] ∧
    bytesOf (memRead s key 4) 4 = [0xBA#8, 0xAD#8, 0xF0#8, 0x0D#8] ∧
    bytesOf (memRead s key 5) 5 = [0xEF#8, 0xBA#8, 0xAD#8, 0xF0#8, 0x0D#8] ∧
    bytesOf (memRead s key 6) 6 = [0xBE#8, 0xEF#8, 0xBA#8, 0xAD#8, 0xF0#8, 0x0D#8] ∧
    bytesOf (memRead s key 7) 7 = [0xAD#8, 0xBE#8, 0xEF#8, 0xBA#8, 0xAD#8, 0xF0#8, 0x0D#8] ∧
    bytesOf (memRead s key 8) 8 = [0xDE#8, 0xAD#8, 0xBE#8, 0xEF#8, 0xBA#8, 0xAD#8, 0xF0#8, 0x0D#8]

/-- Byte j from the end of the value received is byte j of the value, up to 8 bytes (30_encoding.md R96, R97,
20_memory.md R62). -/
def Obligations.ValueIsAssembledMostSignificantFirst : Prop :=
  (∀ (before after : List Word) (w : Word), after.length < 8 →
      byteAt (valueOf (before ++ w :: after)) (8 * after.length) = w) ∧
    (∀ value : List Word, value.length ≤ 8 → bytesOf (valueOf value) value.length = value)

/-- A signed pattern reads as two's complement, and 000A is +10 in every motor width from 5 to 16
(42_register_dispatch.md R186, R187, R197). -/
def Obligations.SignedPatternsReadAsTwosComplement : Prop :=
  (∀ (w : Nat) (p : BitVec w), nativeValue .signed p = if p.msb then (p.toNat : Int) - 2 ^ w else p.toNat) ∧
    (∀ (w : Nat) (p : BitVec w), nativeValue .unsigned p = p.toNat ∧ nativeValue .bitfield p = p.toNat) ∧
    (∀ (w : Nat) (old : BitVec w), 5 ≤ w → w ≤ 16 →
      nativeValue .signed (mergePattern old 2 (valueOf [0x00#8, 0x0A#8])) = 10)

/-- A change by a peripheral reaches only the value behind its readable key (the form of the change: log 11)
(20_memory.md R75, 42_register_dispatch.md R196, 10_state.md R33). -/
def Obligations.PeripheralsChangeOnlyWhatCanBeRead : Prop :=
  ∀ (s : State) (key : Word) (v : Nat) (rest : List Input), s.inputs = .periph key v :: rest →
    completes (step s) (fun t =>
      t = { s with inputs := rest, periph := t.periph, platform := t.platform } ∧
      (∀ (other : Word) (e : Entry), other ≠ key → mapEntry other = some e →
        t.getValue other e = s.getValue other e) ∧
      (∀ other : Word, other ≠ key → t.platformEntry other = s.platformEntry other) ∧
      (mapEntry key ≠ none → t.platform = s.platform) ∧ (mapEntry key = none → t.periph = s.periph) ∧
      (key = 0x42#8 ∨ (∃ e, s.entry key = some e ∧ e.direction = .writeOnly) ∨ s.entry key = none →
        t.periph = s.periph ∧ t.platform = s.platform))

/-- The tick that finds global_reset 1 resets the core exactly where the platform feeds it back (what is reset: log 9)
(70_reset_and_hazards.md R315). -/
def Obligations.LoopbackResetsTheCore : Prop :=
  ∀ s : State, s.globalReset = true →
    (tick s = if Config.resetLoopback then .next (coreReset s) else tick { s with globalReset := false }) ∧
    (coreReset s).phase = .readKey ∧ (coreReset s).evt = .none ∧ (coreReset s).rdLast = false ∧
    (coreReset s).offset = 0#11 ∧ (coreReset s).rxCnt = 0#3 ∧ (coreReset s).txCnt = 0#3 ∧
    (coreReset s).txPendingValid = false ∧ rxNew (coreReset s) = false ∧ txNew (coreReset s) = false ∧
    (coreReset s).globalReset = false ∧ (coreReset s).linkDesel = s.linkDesel

/-- A write frame sent bit by bit, two ticks after each link event, has the effect of its meaning
(70_reset_and_hazards.md R316, R319, R321, 30_encoding.md R95, R96, 41_frame_decoder.md R152, R154, R155, R157). -/
def Obligations.WriteFrameOverTheWire : Prop :=
  ∀ (s : State) (key : Word) (value : List Word) (rest : List Input), Idle s → isWriteKey key = true →
    value.length ≤ 8 → s.inputs = wireWords 2 (writeWords key value) ++ rest →
    ∃ t u, Host.Core.run Sys2Proof.core (48 * (2 + value.length)) s = .next t ∧
      exec (decodeWrite key value) s = .next u ∧ t.inputs = rest ∧
      t.regs = u.regs ∧ t.platform = u.platform ∧ t.globalReset = u.globalReset ∧
      t.key = key ∧ t.phase = .readKey ∧ t.evt = .none ∧ rxNew t = false ∧ txNew t = false ∧
      t.linkDesel = false ∧ t.rxCnt = 0#3 ∧ t.txCnt = 0#3 ∧ t.txPendingValid = false ∧ t.rdLast = false

/-- A read frame clocked bit by bit shows the host the bytes of MemRead, most significant first (41_frame_decoder.md
R153, R156, R158, R159, R166, 30_encoding.md R94, R97, 70_reset_and_hazards.md R317, R319). That the bytes above the
register read as zero is a choice: READ_FILL is zero by decision D13, U1 lets a model vary it, and log 12 (DEDUCED,
unsafe) takes zero. -/
def Obligations.ReadFrameOverTheWire : Prop :=
  ∀ (s : State) (key len : Word) (filler : List Word) (rest : List Input), Idle s → isWriteKey key = false →
    1 ≤ len.toNat → len.toNat ≤ 8 → filler.length = len.toNat →
    s.inputs = wireWords 2 (readWords key len ++ filler) ++ rest →
    ∃ t, Host.Core.run Sys2Proof.core (48 * (2 + len.toNat)) s = .next t ∧ t.inputs = rest ∧
      (hostSees (48 * (2 + len.toNat)) s).drop 16 =
        (bytesOf (memRead s key len.toNat) len.toNat).flatMap wireOrder ∧
      Idle t ∧ t.key = key ∧ t.length = len ∧ t.regs = s.regs ∧ t.platform = s.platform

/-- A write of more than 8 bytes to an added entry: a read-only one discards it, a writable one may hold anything (the
model's choice, log 7) (42_register_dispatch.md R188, R195, 43_register_map.md R266, 30_encoding.md R103). -/
def Obligations.OverlongWritesToAddedEntries : Prop :=
  ∀ (s : State) (key : Word) (value : List Word) (p : PlatformEntry), s.linkDesel = false → 8 < value.length →
    value.length ≤ 255 → s.platformEntry key = some p →
    (p.direction = .readOnly → writeServed (.wrUnknown key value) key value s.regs s) ∧
    (p.direction ≠ .readOnly → completes (exec (.wrUnknown key value) s) (fun t =>
      (∃ new : BitVec p.width, t.platformEntry key = some { p with pattern := new.toNat }) ∧
      (∀ other, other ≠ key → t.platformEntry other = s.platformEntry other) ∧
      t = { s with
        key := key, length := BitVec.ofNat 8 value.length, offset := 0#11, vbuf := valueOf value
        phase := .readKey, evt := .none, globalReset := false, platform := t.platform, draws := s.draws + 1 }))

/-- A change by a peripheral sets what a read of its key finds to the new value, cut to the width (form of the change:
log 11) (42_register_dispatch.md R181, R196, 10_state.md R33). A pattern wider than the window shows its low 64 bits
there. -/
def Obligations.PeripheralsSetTheirOwnValue : Prop :=
  ∀ (s : State) (key : Word) (v : Nat) (rest : List Input), s.inputs = .periph key v :: rest →
    (∀ e : Entry, mapEntry key = some e → e.direction = .readOnly → key ≠ 0x42#8 →
      completes (step s) (fun t => readValue t key = (BitVec.ofNat e.width v).setWidth 64)) ∧
    (∀ p : PlatformEntry, mapEntry key = none → s.platformEntry key = some p → p.direction ≠ .writeOnly →
      completes (step s) (fun t =>
        t.platformEntry key = some { p with pattern := v % 2 ^ p.width } ∧
        (p.mirrors = none → readValue t key = BitVec.ofNat 64 (v % 2 ^ p.width))))
end

