-- ==== Sys2Proof/Laws/Operands.lean ====
section
/-! SUPPORT. What the operations on bytes, windows and patterns do, bit by bit. -/

namespace Sys2Proof.Machine

theorem getLsbD_lowMask (n j : Nat) (h : n ≤ 8) :
    (lowMask n).getLsbD j = decide (j < 8 * n) := by
  simp only [lowMask, BitVec.getLsbD_ushiftRight, BitVec.getLsbD_allOnes]
  by_cases hj : j < 8 * n <;> simp [hj] <;> omega

theorem getLsbD_window (v : Value) (L j : Nat) :
    (window v L).getLsbD j = (v.getLsbD j && decide (j < 8 * L)) := by
  have hn : windowBytes L ≤ 8 := Nat.min_le_right L 8
  simp only [window, BitVec.getLsbD_and, getLsbD_lowMask _ _ hn]
  by_cases hj : j < 64
  · congr 1
    apply decide_eq_decide.mpr
    simp only [windowBytes, Config.valueCap]
    omega
  · simp [BitVec.getLsbD_of_ge v j (by omega)]

theorem getLsbD_putWindow (v x : Value) (L j : Nat) (hj : j < 64) :
    (putWindow v L x).getLsbD j = if j < 8 * L then x.getLsbD j else v.getLsbD j := by
  have hn : windowBytes L ≤ 8 := Nat.min_le_right L 8
  simp only [putWindow, BitVec.getLsbD_or, BitVec.getLsbD_and, BitVec.getLsbD_not,
    getLsbD_lowMask _ _ hn, getLsbD_window]
  have e : (j < 8 * windowBytes L) = (j < 8 * L) := by
    simp only [windowBytes, Config.valueCap, eq_iff_iff]
    omega
  simp only [e, hj, decide_true, Bool.true_and]
  by_cases h : j < 8 * L <;> simp [h]

theorem putWindow_zero (v x : Value) : putWindow v 0 x = v := by
  apply BitVec.eq_of_getLsbD_eq
  intro j hj
  simp [getLsbD_putWindow v x 0 j hj]

/-- A pattern after a write, bit by bit: the value where it reaches, else what stood there (R189, R190). -/
theorem getLsbD_mergePattern {w : Nat} (old : BitVec w) (L : Nat) (v : Value) (j : Nat)
    (hj : j < w) :
    (mergePattern old L v).getLsbD j = if j < 8 * L then v.getLsbD j else old.getLsbD j := by
  unfold mergePattern
  split
  · next h =>
    have : j < 8 * L := by omega
    simp [this, hj]
  · next h =>
    simp only [BitVec.getLsbD_or, BitVec.getLsbD_shiftLeft, BitVec.getLsbD_ushiftRight,
      BitVec.getLsbD_setWidth, hj, decide_true, Bool.true_and]
    by_cases h' : j < 8 * L
    · simp [h']
    · simp [h', Nat.add_sub_cancel' (Nat.le_of_not_lt h')]

theorem offsetOf_toNat (w : Word) (h : w ≠ 0#8) : (offsetOf w).toNat = 8 * (w.toNat - 1) := by
  revert h
  revert w
  decide

theorem getLsbD_byteAt (v : Value) (o b : Nat) (h : b < 8) :
    (byteAt v o).getLsbD b = v.getLsbD (o + b) := by
  simp [byteAt, h]

theorem getLsbD_putByte (v : Value) (o : Nat) (x : Word) (j : Nat) (hj : j < 64) :
    (putByte v o x).getLsbD j =
      if o ≤ j ∧ j < o + 8 then x.getLsbD (j - o) else v.getLsbD j := by
  simp only [putByte, BitVec.getLsbD_or, BitVec.getLsbD_and, BitVec.getLsbD_not,
    BitVec.getLsbD_shiftLeft, BitVec.getLsbD_setWidth, hj, decide_true, Bool.true_and]
  by_cases h : o ≤ j
  · have h1 : ¬ j < o := by omega
    by_cases h2 : j < o + 8
    · have h3 : j - o < 8 := by omega
      have h4 : (255#64).getLsbD (j - o) = true := by
        generalize j - o = m at h3 ⊢
        interval_cases m <;> decide
      have h5 : j - o < 64 := by omega
      simp [h, h1, h2, h4, h5]
    · have h3 : ¬ j - o < 8 := by omega
      have h4 : (255#64).getLsbD (j - o) = false := by
        have : (255#64) = (255#8).setWidth 64 := by decide
        rw [this, BitVec.getLsbD_setWidth]
        simp [BitVec.getLsbD_of_ge (255#8) (j - o) (by omega)]
      simp [h, h1, h2, h4, BitVec.getLsbD_of_ge x (j - o) (by omega)]
  · have h1 : j < o := by omega
    simp [h, h1]

/-- The receive shift register after one more bit: the new bit below the seven older ones (R123). -/
theorem getLsbD_shiftIn (v : Word) (b : Bool) :
    (shiftIn v b).getLsbD 0 = b ∧ ∀ j, j < 7 → (shiftIn v b).getLsbD (j + 1) = v.getLsbD j := by
  refine ⟨by simp [shiftIn], fun j hj => ?_⟩
  have h : j + 1 < 8 := by omega
  simp [shiftIn, h]
  exact (BitVec.getLsbD_eq_getElem (by omega)).symm

/-- The transmit shift register after one bit: a zero below the seven bits still to go (R124). -/
theorem getLsbD_shiftOut (v : Word) :
    (shiftOut v).getLsbD 0 = false ∧ ∀ j, j < 7 → (shiftOut v).getLsbD (j + 1) = v.getLsbD j := by
  refine ⟨by simp [shiftOut], fun j hj => ?_⟩
  have h : j + 1 < 8 := by omega
  simp [shiftOut, h]
  exact (BitVec.getLsbD_eq_getElem (by omega)).symm

/-- Bit 7 of a Word is its most significant bit. -/
theorem msb_eq_bit7 (v : Word) : v.msb = v.getLsbD 7 := by simp [BitVec.msb_eq_getLsbD_last]

theorem length_bytesOf (v : Value) (L : Nat) : (bytesOf v L).length = L := by
  induction L with
  | zero => rfl
  | succ L ih => simp [bytesOf, ih]

theorem valueOf_snoc (bytes : List Word) (b : Word) :
    valueOf (bytes ++ [b]) = (valueOf bytes <<< 8) ||| b.setWidth 64 := by
  simp [valueOf]

/-- The one key behind which an accessor of the map stands. -/
def accessorKey : Accessor → Word
  | .odoCount1 => 0x11#8
  | .odoCount2 => 0x12#8
  | .odoCount3 => 0x13#8
  | .odoCount4 => 0x14#8
  | .odoCount5 => 0x15#8
  | .odoCount6 => 0x16#8
  | .odoSpeed1 => 0x21#8
  | .odoSpeed2 => 0x22#8
  | .odoSpeed3 => 0x23#8
  | .odoSpeed4 => 0x24#8
  | .odoSpeed5 => 0x25#8
  | .odoSpeed6 => 0x26#8
  | .extPort1 => 0x31#8
  | .extPort2 => 0x32#8
  | .extPort3 => 0x33#8
  | .extPort4 => 0x34#8
  | .extPort5 => 0x35#8
  | .extPort6 => 0x36#8
  | .extPort7 => 0x37#8
  | .diagConst => 0x42#8
  | .diag1 => 0x71#8
  | .diag2 => 0x72#8
  | .diag3 => 0x73#8
  | .diag4 => 0x74#8
  | .diag5 => 0x75#8
  | .diag6 => 0x76#8
  | .resetPulse => 0x81#8
  | .ledGreen => 0x82#8
  | .ledB => 0x83#8
  | .ledC => 0x84#8
  | .motor1 => 0x91#8
  | .motor2 => 0x92#8
  | .motor3 => 0x93#8
  | .motor4 => 0x94#8
  | .motor5 => 0x95#8
  | .motor6 => 0x96#8
  | .motor7 => 0x97#8
  | .motor8 => 0x98#8
  | .servo1 => 0xA1#8
  | .servo2 => 0xA2#8
  | .servo3 => 0xA3#8
  | .servo4 => 0xA4#8
  | .servo5 => 0xA5#8
  | .servo6 => 0xA6#8
  | .servo7 => 0xA7#8
  | .servo8 => 0xA8#8
  | .ctrl1 => 0xB1#8
  | .ctrl2 => 0xB2#8
  | .ctrl3 => 0xB3#8
  | .ctrl4 => 0xB4#8
  | .ctrl5 => 0xB5#8
  | .ctrl6 => 0xB6#8
  | .ctrl7 => 0xB7#8
  | .platform => 0x00#8

/-- Each row of the map has an accessor of its own (43_register_map R211 to R263). -/
theorem accessorKey_mapEntry (key : Word) (e : Entry) (h : mapEntry key = some e) : accessorKey e.accessor = key := by
  unfold mapEntry at h
  split at h <;> first | (injection h with h; subst h; rfl) | cases h

theorem mapEntry_accessor_inj (key other : Word) (e e' : Entry) (h : mapEntry key = some e)
    (h' : mapEntry other = some e') (hh : e.accessor = e'.accessor) : key = other := by
  rw [← accessorKey_mapEntry key e h, ← accessorKey_mapEntry other e' h', hh]

/-- No row of the map has the accessor of the added entries. -/
theorem mapEntry_not_platform (key : Word) (e : Entry) (h : mapEntry key = some e) : e.accessor ≠ .platform := by
  intro hp
  have hk := accessorKey_mapEntry key e h
  rw [hp] at hk
  subst hk
  cases h

end Sys2Proof.Machine
end

