-- ==== Sys2Proof/Laws/Platform.lean ====
section
/-! SUPPORT. The platform's entries: every operation that touches them keeps their canonical form and their columns, and
changes the entry of its own key alone (10_state R32, 43_register_map R266; log 17). -/

namespace Sys2Proof.Machine

section

variable (p : PlatformEntry) (f : (w : Nat) → BitVec w → BitVec w)

@[simp] theorem PlatformEntry.update_key : (p.update f).key = p.key := rfl
@[simp] theorem PlatformEntry.update_width : (p.update f).width = p.width := rfl
@[simp] theorem PlatformEntry.update_signedness : (p.update f).signedness = p.signedness := rfl
@[simp] theorem PlatformEntry.update_direction : (p.update f).direction = p.direction := rfl
@[simp] theorem PlatformEntry.update_mirrors : (p.update f).mirrors = p.mirrors := rfl
@[simp] theorem PlatformEntry.update_pattern :
    (p.update f).pattern = (f p.width (BitVec.ofNat p.width p.pattern)).toNat := rfl

/-- An updated entry is as well-formed as the entry was: its new pattern has its width. -/
theorem PlatformEntry.wf_update (h : p.wf = true) : (p.update f).wf = true := by
  simp only [PlatformEntry.wf, Bool.and_eq_true, decide_eq_true_eq] at h ⊢
  exact ⟨⟨h.1.1, (f p.width _).isLt⟩, h.2⟩

end

/-- Each entry of the list, as it was or with a new pattern: the shape of every change to the list. -/
def repatterned (h : PlatformEntry → PlatformEntry) : Prop := ∀ p, h p = p ∨ ∃ f, h p = p.update f

theorem updatePlatform_eq_map (key : Word) (f : (w : Nat) → BitVec w → BitVec w) (ps : List PlatformEntry) :
    updatePlatform key f ps = ps.map (fun p => if p.key == key then p.update f else p) := by
  induction ps with
  | nil => rfl
  | cons p ps ih => simp [updatePlatform, ih]

theorem repatterned_updatePlatform (key : Word) (f : (w : Nat) → BitVec w → BitVec w) :
    repatterned (fun p => if p.key == key then p.update f else p) := by
  intro p
  by_cases h : p.key == key
  · exact .inr ⟨f, if_pos h⟩
  · exact .inl (if_neg h)

theorem repatterned_key (h : PlatformEntry → PlatformEntry) (hh : repatterned h) (p : PlatformEntry) :
    (h p).key = p.key := by
  rcases hh p with e | ⟨f, e⟩ <;> rw [e]
  rfl

theorem keysRise_map (h : PlatformEntry → PlatformEntry) (hh : repatterned h) (ps : List PlatformEntry) :
    keysRise (ps.map h) = keysRise ps := by
  induction ps with
  | nil => rfl
  | cons p ps ih =>
    cases ps with
    | nil => rfl
    | cons q rest =>
      simp only [List.map_cons, keysRise, repatterned_key h hh] at ih ⊢
      rw [ih]

theorem tableColumns_map (h : PlatformEntry → PlatformEntry) (hh : repatterned h) (ps : List PlatformEntry) :
    tableColumns (ps.map h) = tableColumns ps := by
  simp only [tableColumns, List.map_map]
  apply List.map_congr_left
  intro p _
  rcases hh p with e | ⟨f, e⟩ <;> simp [e]

theorem platformWf_map (h : PlatformEntry → PlatformEntry) (hh : repatterned h) (ps : List PlatformEntry)
    (w : platformWf ps = true) : platformWf (ps.map h) = true := by
  simp only [platformWf, Bool.and_eq_true, List.all_eq_true] at w ⊢
  refine ⟨by rw [keysRise_map h hh]; exact w.1, ?_⟩
  intro q hq
  obtain ⟨p, hp, rfl⟩ := List.mem_map.mp hq
  rcases hh p with e | ⟨f, e⟩ <;> rw [e]
  · exact w.2 p hp
  · exact p.wf_update f (w.2 p hp)

/-- `updatePlatform` keeps the canonical form. -/
theorem platformWf_updatePlatform (key : Word) (f : (w : Nat) → BitVec w → BitVec w) (ps : List PlatformEntry)
    (w : platformWf ps = true) : platformWf (updatePlatform key f ps) = true := by
  rw [updatePlatform_eq_map]
  exact platformWf_map _ (repatterned_updatePlatform key f) ps w

/-- `updatePlatform` changes no column of the table. -/
theorem tableColumns_updatePlatform (key : Word) (f : (w : Nat) → BitVec w → BitVec w) (ps : List PlatformEntry) :
    tableColumns (updatePlatform key f ps) = tableColumns ps := by
  rw [updatePlatform_eq_map]
  exact tableColumns_map _ (repatterned_updatePlatform key f) ps

theorem find_updatePlatform (key other : Word) (f : (w : Nat) → BitVec w → BitVec w) (ps : List PlatformEntry) :
    (updatePlatform key f ps).find? (fun p => p.key == other) =
      if other = key then (ps.find? (fun p => p.key == other)).map (fun p => p.update f)
      else ps.find? (fun p => p.key == other) := by
  induction ps with
  | nil => simp [updatePlatform]
  | cons p ps ih =>
    have hk : (if p.key == key then p.update f else p).key = p.key := by split <;> rfl
    simp only [updatePlatform, List.find?_cons, hk]
    by_cases h : p.key = other
    · have hb : (p.key == other) = true := by simpa using h
      simp only [hb]
      subst h
      by_cases h' : p.key = key <;> simp [h']
    · have hb : (p.key == other) = false := by simpa using h
      simp only [hb]
      exact ih

/-- After a change of the entry under `key`, the entry under any key: its own with the new pattern, every other one as it
was. -/
theorem platformEntry_update (s : State) (key other : Word) (f : (w : Nat) → BitVec w → BitVec w) :
    State.platformEntry { s with platform := updatePlatform key f s.platform } other =
      if other = key then (s.platformEntry other).map (fun p => p.update f) else s.platformEntry other :=
  find_updatePlatform key other f s.platform

/-- The entry found under a key has that key. -/
theorem platformEntry_key (s : State) (key : Word) (p : PlatformEntry) (h : s.platformEntry key = some p) :
    p.key = key := by
  have := List.find?_some h
  simpa using this

/-- The entry found under a key is one of the list. -/
theorem platformEntry_mem (s : State) (key : Word) (p : PlatformEntry) (h : s.platformEntry key = some p) :
    p ∈ s.platform := List.mem_of_find?_eq_some h

/-- An entry of a table in canonical form is well-formed. -/
theorem platformEntry_wf (s : State) (key : Word) (p : PlatformEntry) (w : platformWf s.platform = true)
    (h : s.platformEntry key = some p) : p.wf = true := by
  simp only [platformWf, Bool.and_eq_true, List.all_eq_true] at w
  exact w.2 p (platformEntry_mem s key p h)

/-- A key of one direction that is not in the map has no row in the default table (R264). -/
theorem mapEntry_unlistedRead (key : Word) (h : key.msb = false) (h' : listedRead key = false) :
    mapEntry key = none := by
  have : ∀ k : Word, k.msb = false → listedRead k = false → (mapEntry k).isNone = true := by decide
  simpa using this key h h'

/-- The same for the write keys (R265). -/
theorem mapEntry_unlistedWrite (key : Word) (h : key.msb = true) (h' : listedWrite key = false) :
    mapEntry key = none := by
  have : ∀ k : Word, k.msb = true → listedWrite k = false → (mapEntry k).isNone = true := by decide
  simpa using this key h h'

/-- The core's reset keeps the canonical form and every column (R32, R315). -/
theorem coreReset_platform (s : State) :
    tableColumns (coreReset s).platform = tableColumns s.platform ∧
      (platformWf s.platform = true → platformWf (coreReset s).platform = true) := by
  have hh : repatterned (fun p =>
      if p.direction.writable then p.update (fun w _ => drawn s (.register p.key) w) else p) := by
    intro p
    by_cases h : p.direction.writable = true
    · exact .inr ⟨_, if_pos h⟩
    · exact .inl (if_neg h)
  exact ⟨tableColumns_map _ hh _, platformWf_map _ hh _⟩

/-- The state after reset has the default table, in canonical form (D31). -/
theorem reset_platform : platformWf State.reset.platform = true := rfl

end Sys2Proof.Machine
end

