-- ==== Sys2Proof/Laws/State.lean ====
section
/-! SUPPORT. The fields of State after each record update that is an operation of its own: one lemma per field per update,
true by rfl, so that no later proof unfolds an update. -/

namespace Sys2Proof.Machine

section

variable (s : State)

@[simp] theorem spend_linkDesel : (spend s).linkDesel = s.linkDesel := rfl
@[simp] theorem spend_linkOut : (spend s).linkOut = s.linkOut := rfl
@[simp] theorem spend_rxShift : (spend s).rxShift = s.rxShift := rfl
@[simp] theorem spend_rxCnt : (spend s).rxCnt = s.rxCnt := rfl
@[simp] theorem spend_rxWord : (spend s).rxWord = s.rxWord := rfl
@[simp] theorem spend_txShift : (spend s).txShift = s.txShift := rfl
@[simp] theorem spend_txCnt : (spend s).txCnt = s.txCnt := rfl
@[simp] theorem spend_txPending : (spend s).txPending = s.txPending := rfl
@[simp] theorem spend_txPendingValid : (spend s).txPendingValid = s.txPendingValid := rfl
@[simp] theorem spend_rxToggle : (spend s).rxToggle = s.rxToggle := rfl
@[simp] theorem spend_txToggle : (spend s).txToggle = s.txToggle := rfl
@[simp] theorem spend_phase : (spend s).phase = s.phase := rfl
@[simp] theorem spend_key : (spend s).key = s.key := rfl
@[simp] theorem spend_length : (spend s).length = s.length := rfl
@[simp] theorem spend_offset : (spend s).offset = s.offset := rfl
@[simp] theorem spend_vbuf : (spend s).vbuf = s.vbuf := rfl
@[simp] theorem spend_rxSeen : (spend s).rxSeen = s.rxSeen := rfl
@[simp] theorem spend_txSeen : (spend s).txSeen = s.txSeen := rfl
@[simp] theorem spend_evt : (spend s).evt = s.evt := rfl
@[simp] theorem spend_rdLast : (spend s).rdLast = s.rdLast := rfl
@[simp] theorem spend_globalReset : (spend s).globalReset = s.globalReset := rfl
@[simp] theorem spend_regs : (spend s).regs = s.regs := rfl
@[simp] theorem spend_periph : (spend s).periph = s.periph := rfl
@[simp] theorem spend_platform : (spend s).platform = s.platform := rfl
@[simp] theorem spend_inputs : (spend s).inputs = s.inputs := rfl
@[simp] theorem spend_draws : (spend s).draws = s.draws + 1 := rfl

end

section

variable (L : Nat) (s : State)

@[simp] theorem spendOverlong_linkDesel : (spendOverlong L s).linkDesel = s.linkDesel := rfl
@[simp] theorem spendOverlong_linkOut : (spendOverlong L s).linkOut = s.linkOut := rfl
@[simp] theorem spendOverlong_rxShift : (spendOverlong L s).rxShift = s.rxShift := rfl
@[simp] theorem spendOverlong_rxCnt : (spendOverlong L s).rxCnt = s.rxCnt := rfl
@[simp] theorem spendOverlong_rxWord : (spendOverlong L s).rxWord = s.rxWord := rfl
@[simp] theorem spendOverlong_txShift : (spendOverlong L s).txShift = s.txShift := rfl
@[simp] theorem spendOverlong_txCnt : (spendOverlong L s).txCnt = s.txCnt := rfl
@[simp] theorem spendOverlong_txPending : (spendOverlong L s).txPending = s.txPending := rfl
@[simp] theorem spendOverlong_txPendingValid : (spendOverlong L s).txPendingValid = s.txPendingValid := rfl
@[simp] theorem spendOverlong_rxToggle : (spendOverlong L s).rxToggle = s.rxToggle := rfl
@[simp] theorem spendOverlong_txToggle : (spendOverlong L s).txToggle = s.txToggle := rfl
@[simp] theorem spendOverlong_phase : (spendOverlong L s).phase = s.phase := rfl
@[simp] theorem spendOverlong_key : (spendOverlong L s).key = s.key := rfl
@[simp] theorem spendOverlong_length : (spendOverlong L s).length = s.length := rfl
@[simp] theorem spendOverlong_offset : (spendOverlong L s).offset = s.offset := rfl
@[simp] theorem spendOverlong_vbuf : (spendOverlong L s).vbuf = s.vbuf := rfl
@[simp] theorem spendOverlong_rxSeen : (spendOverlong L s).rxSeen = s.rxSeen := rfl
@[simp] theorem spendOverlong_txSeen : (spendOverlong L s).txSeen = s.txSeen := rfl
@[simp] theorem spendOverlong_evt : (spendOverlong L s).evt = s.evt := rfl
@[simp] theorem spendOverlong_rdLast : (spendOverlong L s).rdLast = s.rdLast := rfl
@[simp] theorem spendOverlong_globalReset : (spendOverlong L s).globalReset = s.globalReset := rfl
@[simp] theorem spendOverlong_regs : (spendOverlong L s).regs = s.regs := rfl
@[simp] theorem spendOverlong_periph : (spendOverlong L s).periph = s.periph := rfl
@[simp] theorem spendOverlong_platform : (spendOverlong L s).platform = s.platform := rfl
@[simp] theorem spendOverlong_inputs : (spendOverlong L s).inputs = s.inputs := rfl
@[simp] theorem spendOverlong_draws : (spendOverlong L s).draws = if Config.valueCap < L then s.draws + 1 else s.draws := rfl

end

section

variable (s : State)

@[simp] theorem observed_linkDesel : (observed s).linkDesel = s.linkDesel := rfl
@[simp] theorem observed_linkOut : (observed s).linkOut = s.linkOut := rfl
@[simp] theorem observed_rxShift : (observed s).rxShift = s.rxShift := rfl
@[simp] theorem observed_rxCnt : (observed s).rxCnt = s.rxCnt := rfl
@[simp] theorem observed_rxWord : (observed s).rxWord = s.rxWord := rfl
@[simp] theorem observed_txShift : (observed s).txShift = s.txShift := rfl
@[simp] theorem observed_txCnt : (observed s).txCnt = s.txCnt := rfl
@[simp] theorem observed_txPending : (observed s).txPending = s.txPending := rfl
@[simp] theorem observed_txPendingValid : (observed s).txPendingValid = s.txPendingValid := rfl
@[simp] theorem observed_rxToggle : (observed s).rxToggle = s.rxToggle := rfl
@[simp] theorem observed_txToggle : (observed s).txToggle = s.txToggle := rfl
@[simp] theorem observed_phase : (observed s).phase = s.phase := rfl
@[simp] theorem observed_key : (observed s).key = s.key := rfl
@[simp] theorem observed_length : (observed s).length = s.length := rfl
@[simp] theorem observed_offset : (observed s).offset = s.offset := rfl
@[simp] theorem observed_vbuf : (observed s).vbuf = s.vbuf := rfl
@[simp] theorem observed_rxSeen : (observed s).rxSeen = s.rxToggle := rfl
@[simp] theorem observed_txSeen : (observed s).txSeen = s.txToggle := rfl
@[simp] theorem observed_evt : (observed s).evt = s.evt := rfl
@[simp] theorem observed_rdLast : (observed s).rdLast = s.rdLast := rfl
@[simp] theorem observed_globalReset : (observed s).globalReset = s.globalReset := rfl
@[simp] theorem observed_regs : (observed s).regs = s.regs := rfl
@[simp] theorem observed_periph : (observed s).periph = s.periph := rfl
@[simp] theorem observed_platform : (observed s).platform = s.platform := rfl
@[simp] theorem observed_inputs : (observed s).inputs = s.inputs := rfl
@[simp] theorem observed_draws : (observed s).draws = s.draws := rfl

end

section

variable (s : State)

@[simp] theorem cancelFrame_linkDesel : (cancelFrame s).linkDesel = s.linkDesel := rfl
@[simp] theorem cancelFrame_linkOut : (cancelFrame s).linkOut = s.linkOut := rfl
@[simp] theorem cancelFrame_rxShift : (cancelFrame s).rxShift = s.rxShift := rfl
@[simp] theorem cancelFrame_rxCnt : (cancelFrame s).rxCnt = s.rxCnt := rfl
@[simp] theorem cancelFrame_rxWord : (cancelFrame s).rxWord = s.rxWord := rfl
@[simp] theorem cancelFrame_txShift : (cancelFrame s).txShift = s.txShift := rfl
@[simp] theorem cancelFrame_txCnt : (cancelFrame s).txCnt = s.txCnt := rfl
@[simp] theorem cancelFrame_txPending : (cancelFrame s).txPending = s.txPending := rfl
@[simp] theorem cancelFrame_txPendingValid : (cancelFrame s).txPendingValid = s.txPendingValid := rfl
@[simp] theorem cancelFrame_rxToggle : (cancelFrame s).rxToggle = s.rxToggle := rfl
@[simp] theorem cancelFrame_txToggle : (cancelFrame s).txToggle = s.txToggle := rfl
@[simp] theorem cancelFrame_phase : (cancelFrame s).phase = .readKey := rfl
@[simp] theorem cancelFrame_key : (cancelFrame s).key = s.key := rfl
@[simp] theorem cancelFrame_length : (cancelFrame s).length = s.length := rfl
@[simp] theorem cancelFrame_offset : (cancelFrame s).offset = 0#11 := rfl
@[simp] theorem cancelFrame_vbuf : (cancelFrame s).vbuf = s.vbuf := rfl
@[simp] theorem cancelFrame_rxSeen : (cancelFrame s).rxSeen = s.rxToggle := rfl
@[simp] theorem cancelFrame_txSeen : (cancelFrame s).txSeen = s.txToggle := rfl
@[simp] theorem cancelFrame_evt : (cancelFrame s).evt = .none := rfl
@[simp] theorem cancelFrame_rdLast : (cancelFrame s).rdLast = false := rfl
@[simp] theorem cancelFrame_globalReset : (cancelFrame s).globalReset = s.globalReset := rfl
@[simp] theorem cancelFrame_regs : (cancelFrame s).regs = s.regs := rfl
@[simp] theorem cancelFrame_periph : (cancelFrame s).periph = s.periph := rfl
@[simp] theorem cancelFrame_platform : (cancelFrame s).platform = s.platform := rfl
@[simp] theorem cancelFrame_inputs : (cancelFrame s).inputs = s.inputs := rfl
@[simp] theorem cancelFrame_draws : (cancelFrame s).draws = s.draws := rfl

end

section

variable (cur : Word) (s : State)

@[simp] theorem driveBit_linkDesel : (driveBit cur s).linkDesel = s.linkDesel := rfl
@[simp] theorem driveBit_linkOut : (driveBit cur s).linkOut = cur.msb := rfl
@[simp] theorem driveBit_rxShift : (driveBit cur s).rxShift = s.rxShift := rfl
@[simp] theorem driveBit_rxCnt : (driveBit cur s).rxCnt = s.rxCnt := rfl
@[simp] theorem driveBit_rxWord : (driveBit cur s).rxWord = s.rxWord := rfl
@[simp] theorem driveBit_txShift : (driveBit cur s).txShift = shiftOut cur := rfl
@[simp] theorem driveBit_txCnt : (driveBit cur s).txCnt = s.txCnt + 1#3 := rfl
@[simp] theorem driveBit_txPending : (driveBit cur s).txPending = s.txPending := rfl
@[simp] theorem driveBit_txPendingValid : (driveBit cur s).txPendingValid = s.txPendingValid := rfl
@[simp] theorem driveBit_rxToggle : (driveBit cur s).rxToggle = s.rxToggle := rfl
@[simp] theorem driveBit_txToggle : (driveBit cur s).txToggle = s.txToggle := rfl
@[simp] theorem driveBit_phase : (driveBit cur s).phase = s.phase := rfl
@[simp] theorem driveBit_key : (driveBit cur s).key = s.key := rfl
@[simp] theorem driveBit_length : (driveBit cur s).length = s.length := rfl
@[simp] theorem driveBit_offset : (driveBit cur s).offset = s.offset := rfl
@[simp] theorem driveBit_vbuf : (driveBit cur s).vbuf = s.vbuf := rfl
@[simp] theorem driveBit_rxSeen : (driveBit cur s).rxSeen = s.rxSeen := rfl
@[simp] theorem driveBit_txSeen : (driveBit cur s).txSeen = s.txSeen := rfl
@[simp] theorem driveBit_evt : (driveBit cur s).evt = s.evt := rfl
@[simp] theorem driveBit_rdLast : (driveBit cur s).rdLast = s.rdLast := rfl
@[simp] theorem driveBit_globalReset : (driveBit cur s).globalReset = s.globalReset := rfl
@[simp] theorem driveBit_regs : (driveBit cur s).regs = s.regs := rfl
@[simp] theorem driveBit_periph : (driveBit cur s).periph = s.periph := rfl
@[simp] theorem driveBit_platform : (driveBit cur s).platform = s.platform := rfl
@[simp] theorem driveBit_inputs : (driveBit cur s).inputs = s.inputs := rfl
@[simp] theorem driveBit_draws : (driveBit cur s).draws = s.draws := rfl

end

section

variable (v : List Word) (r : Registers) (s : State)

@[simp] theorem storeRegs_linkDesel : (storeRegs v r s).linkDesel = s.linkDesel := rfl
@[simp] theorem storeRegs_linkOut : (storeRegs v r s).linkOut = s.linkOut := rfl
@[simp] theorem storeRegs_rxShift : (storeRegs v r s).rxShift = s.rxShift := rfl
@[simp] theorem storeRegs_rxCnt : (storeRegs v r s).rxCnt = s.rxCnt := rfl
@[simp] theorem storeRegs_rxWord : (storeRegs v r s).rxWord = s.rxWord := rfl
@[simp] theorem storeRegs_txShift : (storeRegs v r s).txShift = s.txShift := rfl
@[simp] theorem storeRegs_txCnt : (storeRegs v r s).txCnt = s.txCnt := rfl
@[simp] theorem storeRegs_txPending : (storeRegs v r s).txPending = s.txPending := rfl
@[simp] theorem storeRegs_txPendingValid : (storeRegs v r s).txPendingValid = s.txPendingValid := rfl
@[simp] theorem storeRegs_rxToggle : (storeRegs v r s).rxToggle = s.rxToggle := rfl
@[simp] theorem storeRegs_txToggle : (storeRegs v r s).txToggle = s.txToggle := rfl
@[simp] theorem storeRegs_phase : (storeRegs v r s).phase = s.phase := rfl
@[simp] theorem storeRegs_key : (storeRegs v r s).key = s.key := rfl
@[simp] theorem storeRegs_length : (storeRegs v r s).length = s.length := rfl
@[simp] theorem storeRegs_offset : (storeRegs v r s).offset = s.offset := rfl
@[simp] theorem storeRegs_vbuf : (storeRegs v r s).vbuf = s.vbuf := rfl
@[simp] theorem storeRegs_rxSeen : (storeRegs v r s).rxSeen = s.rxSeen := rfl
@[simp] theorem storeRegs_txSeen : (storeRegs v r s).txSeen = s.txSeen := rfl
@[simp] theorem storeRegs_evt : (storeRegs v r s).evt = s.evt := rfl
@[simp] theorem storeRegs_rdLast : (storeRegs v r s).rdLast = s.rdLast := rfl
@[simp] theorem storeRegs_globalReset : (storeRegs v r s).globalReset = s.globalReset := rfl
@[simp] theorem storeRegs_regs : (storeRegs v r s).regs = r := rfl
@[simp] theorem storeRegs_periph : (storeRegs v r s).periph = s.periph := rfl
@[simp] theorem storeRegs_platform : (storeRegs v r s).platform = s.platform := rfl
@[simp] theorem storeRegs_inputs : (storeRegs v r s).inputs = s.inputs := rfl
@[simp] theorem storeRegs_draws : (storeRegs v r s).draws = if Config.valueCap < v.length then s.draws + 1 else s.draws := rfl

end

section

variable (s : State)

@[simp] theorem onSelect_linkDesel : (onSelect s).linkDesel = false := rfl
@[simp] theorem onSelect_linkOut : (onSelect s).linkOut = s.linkOut := rfl
@[simp] theorem onSelect_rxShift : (onSelect s).rxShift = s.rxShift := rfl
@[simp] theorem onSelect_rxCnt : (onSelect s).rxCnt = s.rxCnt := rfl
@[simp] theorem onSelect_rxWord : (onSelect s).rxWord = s.rxWord := rfl
@[simp] theorem onSelect_txShift : (onSelect s).txShift = s.txShift := rfl
@[simp] theorem onSelect_txCnt : (onSelect s).txCnt = s.txCnt := rfl
@[simp] theorem onSelect_txPending : (onSelect s).txPending = s.txPending := rfl
@[simp] theorem onSelect_txPendingValid : (onSelect s).txPendingValid = s.txPendingValid := rfl
@[simp] theorem onSelect_rxToggle : (onSelect s).rxToggle = s.rxToggle := rfl
@[simp] theorem onSelect_txToggle : (onSelect s).txToggle = s.txToggle := rfl
@[simp] theorem onSelect_phase : (onSelect s).phase = s.phase := rfl
@[simp] theorem onSelect_key : (onSelect s).key = s.key := rfl
@[simp] theorem onSelect_length : (onSelect s).length = s.length := rfl
@[simp] theorem onSelect_offset : (onSelect s).offset = s.offset := rfl
@[simp] theorem onSelect_vbuf : (onSelect s).vbuf = s.vbuf := rfl
@[simp] theorem onSelect_rxSeen : (onSelect s).rxSeen = s.rxSeen := rfl
@[simp] theorem onSelect_txSeen : (onSelect s).txSeen = s.txSeen := rfl
@[simp] theorem onSelect_evt : (onSelect s).evt = s.evt := rfl
@[simp] theorem onSelect_rdLast : (onSelect s).rdLast = s.rdLast := rfl
@[simp] theorem onSelect_globalReset : (onSelect s).globalReset = s.globalReset := rfl
@[simp] theorem onSelect_regs : (onSelect s).regs = s.regs := rfl
@[simp] theorem onSelect_periph : (onSelect s).periph = s.periph := rfl
@[simp] theorem onSelect_platform : (onSelect s).platform = s.platform := rfl
@[simp] theorem onSelect_inputs : (onSelect s).inputs = s.inputs := rfl
@[simp] theorem onSelect_draws : (onSelect s).draws = s.draws := rfl

end

section

variable (s : State)

@[simp] theorem onDeselect_linkDesel : (onDeselect s).linkDesel = true := rfl
@[simp] theorem onDeselect_linkOut : (onDeselect s).linkOut =
    if s.linkDesel then s.linkOut else (drawn s .linkOut 1).msb := rfl
@[simp] theorem onDeselect_rxShift : (onDeselect s).rxShift = s.rxShift := rfl
@[simp] theorem onDeselect_rxCnt : (onDeselect s).rxCnt = 0#3 := rfl
@[simp] theorem onDeselect_rxWord : (onDeselect s).rxWord = s.rxWord := rfl
@[simp] theorem onDeselect_txShift : (onDeselect s).txShift = s.txShift := rfl
@[simp] theorem onDeselect_txCnt : (onDeselect s).txCnt = 0#3 := rfl
@[simp] theorem onDeselect_txPending : (onDeselect s).txPending = s.txPending := rfl
@[simp] theorem onDeselect_txPendingValid : (onDeselect s).txPendingValid = false := rfl
@[simp] theorem onDeselect_rxToggle : (onDeselect s).rxToggle = s.rxToggle := rfl
@[simp] theorem onDeselect_txToggle : (onDeselect s).txToggle = s.txToggle := rfl
@[simp] theorem onDeselect_phase : (onDeselect s).phase = s.phase := rfl
@[simp] theorem onDeselect_key : (onDeselect s).key = s.key := rfl
@[simp] theorem onDeselect_length : (onDeselect s).length = s.length := rfl
@[simp] theorem onDeselect_offset : (onDeselect s).offset = s.offset := rfl
@[simp] theorem onDeselect_vbuf : (onDeselect s).vbuf = s.vbuf := rfl
@[simp] theorem onDeselect_rxSeen : (onDeselect s).rxSeen = s.rxSeen := rfl
@[simp] theorem onDeselect_txSeen : (onDeselect s).txSeen = s.txSeen := rfl
@[simp] theorem onDeselect_evt : (onDeselect s).evt = s.evt := rfl
@[simp] theorem onDeselect_rdLast : (onDeselect s).rdLast = s.rdLast := rfl
@[simp] theorem onDeselect_globalReset : (onDeselect s).globalReset = s.globalReset := rfl
@[simp] theorem onDeselect_regs : (onDeselect s).regs = s.regs := rfl
@[simp] theorem onDeselect_periph : (onDeselect s).periph = s.periph := rfl
@[simp] theorem onDeselect_platform : (onDeselect s).platform = s.platform := rfl
@[simp] theorem onDeselect_inputs : (onDeselect s).inputs = s.inputs := rfl
@[simp] theorem onDeselect_draws : (onDeselect s).draws = if s.linkDesel then s.draws else s.draws + 1 := rfl

end

section

variable (r : Peripherals) (f : (w : Nat) → BitVec w → BitVec w) (a : Accessor)

theorem Peripherals.update_odoCount1 : (r.update f a).odoCount1 = if a = .odoCount1 then f _ r.odoCount1 else r.odoCount1 := by
  cases a <;> rfl
theorem Peripherals.update_odoCount2 : (r.update f a).odoCount2 = if a = .odoCount2 then f _ r.odoCount2 else r.odoCount2 := by
  cases a <;> rfl
theorem Peripherals.update_odoCount3 : (r.update f a).odoCount3 = if a = .odoCount3 then f _ r.odoCount3 else r.odoCount3 := by
  cases a <;> rfl
theorem Peripherals.update_odoCount4 : (r.update f a).odoCount4 = if a = .odoCount4 then f _ r.odoCount4 else r.odoCount4 := by
  cases a <;> rfl
theorem Peripherals.update_odoCount5 : (r.update f a).odoCount5 = if a = .odoCount5 then f _ r.odoCount5 else r.odoCount5 := by
  cases a <;> rfl
theorem Peripherals.update_odoCount6 : (r.update f a).odoCount6 = if a = .odoCount6 then f _ r.odoCount6 else r.odoCount6 := by
  cases a <;> rfl
theorem Peripherals.update_odoSpeed1 : (r.update f a).odoSpeed1 = if a = .odoSpeed1 then f _ r.odoSpeed1 else r.odoSpeed1 := by
  cases a <;> rfl
theorem Peripherals.update_odoSpeed2 : (r.update f a).odoSpeed2 = if a = .odoSpeed2 then f _ r.odoSpeed2 else r.odoSpeed2 := by
  cases a <;> rfl
theorem Peripherals.update_odoSpeed3 : (r.update f a).odoSpeed3 = if a = .odoSpeed3 then f _ r.odoSpeed3 else r.odoSpeed3 := by
  cases a <;> rfl
theorem Peripherals.update_odoSpeed4 : (r.update f a).odoSpeed4 = if a = .odoSpeed4 then f _ r.odoSpeed4 else r.odoSpeed4 := by
  cases a <;> rfl
theorem Peripherals.update_odoSpeed5 : (r.update f a).odoSpeed5 = if a = .odoSpeed5 then f _ r.odoSpeed5 else r.odoSpeed5 := by
  cases a <;> rfl
theorem Peripherals.update_odoSpeed6 : (r.update f a).odoSpeed6 = if a = .odoSpeed6 then f _ r.odoSpeed6 else r.odoSpeed6 := by
  cases a <;> rfl
theorem Peripherals.update_extPort1 : (r.update f a).extPort1 = if a = .extPort1 then f _ r.extPort1 else r.extPort1 := by
  cases a <;> rfl
theorem Peripherals.update_extPort2 : (r.update f a).extPort2 = if a = .extPort2 then f _ r.extPort2 else r.extPort2 := by
  cases a <;> rfl
theorem Peripherals.update_extPort3 : (r.update f a).extPort3 = if a = .extPort3 then f _ r.extPort3 else r.extPort3 := by
  cases a <;> rfl
theorem Peripherals.update_extPort4 : (r.update f a).extPort4 = if a = .extPort4 then f _ r.extPort4 else r.extPort4 := by
  cases a <;> rfl
theorem Peripherals.update_extPort5 : (r.update f a).extPort5 = if a = .extPort5 then f _ r.extPort5 else r.extPort5 := by
  cases a <;> rfl
theorem Peripherals.update_extPort6 : (r.update f a).extPort6 = if a = .extPort6 then f _ r.extPort6 else r.extPort6 := by
  cases a <;> rfl
theorem Peripherals.update_extPort7 : (r.update f a).extPort7 = if a = .extPort7 then f _ r.extPort7 else r.extPort7 := by
  cases a <;> rfl
theorem Peripherals.update_diag1 : (r.update f a).diag1 = if a = .diag1 then f _ r.diag1 else r.diag1 := by
  cases a <;> rfl
theorem Peripherals.update_diag2 : (r.update f a).diag2 = if a = .diag2 then f _ r.diag2 else r.diag2 := by
  cases a <;> rfl
theorem Peripherals.update_diag3 : (r.update f a).diag3 = if a = .diag3 then f _ r.diag3 else r.diag3 := by
  cases a <;> rfl
theorem Peripherals.update_diag4 : (r.update f a).diag4 = if a = .diag4 then f _ r.diag4 else r.diag4 := by
  cases a <;> rfl
theorem Peripherals.update_diag5 : (r.update f a).diag5 = if a = .diag5 then f _ r.diag5 else r.diag5 := by
  cases a <;> rfl
theorem Peripherals.update_diag6 : (r.update f a).diag6 = if a = .diag6 then f _ r.diag6 else r.diag6 := by
  cases a <;> rfl

end

end Sys2Proof.Machine
end

