-- ==== Sys2Proof/Laws/Ops.lean ====
section
/-! SUPPORT. One lemma per shared operation that says once everything it can do. -/

namespace Sys2Proof.Machine

/-! ### The transmit queue -/

/-- `Submit` touches the queue alone, and only while selected (R125). -/
theorem submit_eq (w : Word) (s : State) :
    submit w s = { s with
      txPending := if s.linkDesel then s.txPending else w
      txPendingValid := if s.linkDesel then s.txPendingValid else true } := by
  obtain ⟨d⟩ := s
  cases d <;> rfl

/-- Submitting the byte at an offset touches the queue and the draw counter alone; while selected a byte of the buffer,
or any Word beyond it, is queued (R125, R151, R103). -/
theorem submitAt_eq (o : Offset) (s : State) : ∃ (w : Word) (v : Bool) (d : Nat),
    submitAt o s = { s with txPending := w, txPendingValid := v, draws := d } ∧
    (s.linkDesel = false → v = true) ∧
    (s.linkDesel = true → w = s.txPending ∧ v = s.txPendingValid) ∧
    (o.toNat < 64 → d = s.draws ∧ (s.linkDesel = false → w = byteAt s.vbuf o.toNat)) := by
  unfold submitAt
  split
  · next h =>
    exact ⟨_, _, s.draws, submit_eq _ _, by simp +contextual, by simp +contextual, by simp +contextual⟩
  · next h =>
    refine ⟨_, _, s.draws + 1, submit_eq _ _, by simp +contextual, by simp +contextual, ?_⟩
    intro h'
    exact absurd h' h

/-! ### The window -/

theorem window_idem (v : Value) (L : Nat) : window (window v L) L = window v L := by
  apply BitVec.eq_of_getLsbD_eq
  intro j _
  simp [getLsbD_window]

theorem putWindow_window (v x : Value) (L : Nat) : putWindow v L (window x L) = putWindow v L x := by
  unfold putWindow
  rw [window_idem]

/-- The window put back where it was taken from changes nothing (R193). -/
theorem putWindow_self (v : Value) (L : Nat) : putWindow v L v = v := by
  apply BitVec.eq_of_getLsbD_eq
  intro j hj
  simp [getLsbD_putWindow v v L j hj]

/-- A pattern after a write reads only the window of the value (R186). -/
theorem mergePattern_window {w : Nat} (old : BitVec w) (L : Nat) (v : Value) :
    mergePattern old L (window v L) = mergePattern old L v := by
  apply BitVec.eq_of_getLsbD_eq
  intro j hj
  rw [getLsbD_mergePattern _ _ _ _ hj, getLsbD_mergePattern _ _ _ _ hj, getLsbD_window]
  by_cases h' : j < 8 * L <;> simp [h']

theorem writtenPattern_window {w : Nat} (s : State) (key : Word) (L : Nat) (v : Value) (old : BitVec w) :
    writtenPattern s key L (window v L) old = writtenPattern s key L v old := by
  unfold writtenPattern
  split
  · rfl
  · exact mergePattern_window old L v

theorem valueOf_append (a b : List Word) :
    valueOf (a ++ b) = (valueOf a <<< (8 * b.length)) ||| valueOf b := by
  induction b using List.reverseRecOn with
  | nil => simp [valueOf]
  | append_singleton b x ih =>
    rw [← List.append_assoc, valueOf_snoc, valueOf_snoc, ih, BitVec.shiftLeft_or_distrib, BitVec.or_assoc]
    congr 1
    simp only [List.length_append, List.length_singleton, Nat.mul_add, Nat.mul_one, BitVec.shiftLeft_add]

/-- The value of a window's bytes is the window (R62, R96, R97). -/
theorem valueOf_bytesOf (v : Value) (L : Nat) : valueOf (bytesOf v L) = window v L := by
  induction L with
  | zero =>
    apply BitVec.eq_of_getLsbD_eq
    intro j _
    simp [valueOf, bytesOf, getLsbD_window]
  | succ L ih =>
    have e : bytesOf v (L + 1) = [byteAt v (8 * L)] ++ bytesOf v L := rfl
    rw [e, valueOf_append, ih, length_bytesOf]
    apply BitVec.eq_of_getLsbD_eq
    intro j hj
    simp only [valueOf, List.foldl, BitVec.getLsbD_or, BitVec.getLsbD_shiftLeft, getLsbD_window, byteAt,
      BitVec.getLsbD_setWidth, BitVec.getLsbD_ushiftRight, hj, decide_true, Bool.true_and]
    by_cases h1 : j < 8 * L
    · simp [h1]
      omega
    · by_cases h2 : j < 8 * (L + 1)
      · have h3 : j - 8 * L < 8 := by omega
        have h4 : j - 8 * L < 64 := by omega
        simp [h1, h2, h3, h4, Nat.add_sub_cancel' (Nat.le_of_not_lt h1)]
      · have h3 : ¬ j - 8 * L < 8 := by omega
        simp [h1, h2, h3]

/-- The buffer refilled with its own window's bytes is the buffer. -/
theorem putWindow_bytesOf (v : Value) (L : Nat) : putWindow v L (valueOf (bytesOf v L)) = v := by
  rw [valueOf_bytesOf, putWindow_window, putWindow_self]

/-! ### The write decoder -/

/-- `MemWrite` touches the register file, the platform's patterns, `global_reset` and the draw counter alone; it keeps the
table's columns and its canonical form (R186 to R191). -/
theorem memWrite_eq (key : Word) (L : Nat) (v : Value) (s : State) :
    ∃ (g : Bool) (r : Registers) (ps : List PlatformEntry) (d : Nat),
      memWrite key L v s = { s with globalReset := g, regs := r, platform := ps, draws := d } ∧
      tableColumns ps = tableColumns s.platform ∧
      (platformWf s.platform = true → platformWf ps = true) := by
  unfold memWrite
  split
  · exact ⟨s.globalReset, s.regs, s.platform, s.draws, rfl, rfl, id⟩
  · split
    · exact ⟨s.globalReset, s.regs, s.platform, s.draws, rfl, rfl, id⟩
    · next e _ =>
      split
      · split
        · exact ⟨_, s.regs, s.platform, _, rfl, rfl, id⟩
        · unfold State.updateRegister
          split
          · exact ⟨s.globalReset, s.regs, _, _, rfl, tableColumns_updatePlatform _ _ _,
              platformWf_updatePlatform _ _ _⟩
          · exact ⟨s.globalReset, _, s.platform, _, rfl, rfl, id⟩
      · exact ⟨s.globalReset, s.regs, s.platform, s.draws, rfl, rfl, id⟩

/-- `Service` touches the value buffer (a read), the register file, the platform's patterns and the draw counter (a
write), and `global_reset`, alone (R193). -/
theorem service_eq (s : State) :
    ∃ (g : Bool) (b : Value) (r : Registers) (ps : List PlatformEntry) (d : Nat),
      service s = { s with globalReset := g, vbuf := b, regs := r, platform := ps, draws := d } ∧
      tableColumns ps = tableColumns s.platform ∧
      (platformWf s.platform = true → platformWf ps = true) ∧
      (s.evt ≠ .writeDone → g = false ∧ r = s.regs ∧ ps = s.platform ∧ d = s.draws) ∧
      (s.evt ≠ .readReq → b = s.vbuf) := by
  unfold service
  split
  · exact ⟨false, s.vbuf, s.regs, s.platform, s.draws, rfl, rfl, id, by simp, by simp⟩
  · next h => exact ⟨false, _, s.regs, s.platform, s.draws, rfl, rfl, id, by simp, by simp [h]⟩
  · next h =>
    obtain ⟨g, r, ps, d, e, hc, hw⟩ :=
      memWrite_eq s.key s.length.toNat (window s.vbuf s.length.toNat) { s with globalReset := false }
    exact ⟨g, s.vbuf, r, ps, d, e, hc, hw, by simp [h], by simp⟩

/-! ### A peripheral's change -/

/-- Under a listed key `supply` reaches the value behind it alone, and only where the key can be read (R75, R196). -/
theorem supply_listed (key : Word) (v : Nat) (s : State) (e : Entry) (h : mapEntry key = some e) :
    supply key v s = if e.direction.readable
      then { s with periph := s.periph.update (fun w _ => BitVec.ofNat w v) e.accessor } else s := by
  have he : s.entry key = some e := by unfold State.entry; rw [h]
  unfold supply
  rw [he]
  simp only []
  split
  · split
    · exact absurd ‹_› (mapEntry_not_platform key e h)
    · rfl
  · rfl

/-- Under an added readable entry `supply` reaches the added entries of that key alone (R196, R266). -/
theorem supply_added (key : Word) (v : Nat) (s : State) (p : PlatformEntry) (h : mapEntry key = none)
    (hp : s.platformEntry key = some p) :
    supply key v s = if p.direction.readable
      then { s with platform := updatePlatform key (fun w _ => BitVec.ofNat w v) s.platform } else s := by
  have he : s.entry key = some p.entry := by
    unfold State.entry
    rw [h]
    simp only [hp, Option.map]
  unfold supply
  rw [he]
  rfl

/-- `supply` touches what `get` answers alone, and keeps the table's columns and canonical form (R75, R196). -/
theorem supply_eq (key : Word) (v : Nat) (s : State) :
    ∃ (r : Peripherals) (ps : List PlatformEntry),
      supply key v s = { s with periph := r, platform := ps } ∧
      tableColumns ps = tableColumns s.platform ∧
      (platformWf s.platform = true → platformWf ps = true) := by
  unfold supply
  split
  · exact ⟨s.periph, s.platform, rfl, rfl, id⟩
  · split
    · split
      · exact ⟨s.periph, _, rfl, tableColumns_updatePlatform _ _ _, platformWf_updatePlatform _ _ _⟩
      · exact ⟨_, s.platform, rfl, rfl, id⟩
    · exact ⟨s.periph, s.platform, rfl, rfl, id⟩

/-! ### The decode part of a tick -/

/-- The rule of a state touches the decoder's own elements, the transmit queue and the draw counter alone (R151). -/
theorem decodeState_eq (s : State) :
    ∃ (w : Word) (v : Bool) (p : Phase) (k len : Word) (o : Offset) (b : Value) (e : Event) (l : Bool) (d : Nat),
      decodeState s = { s with
        txPending := w, txPendingValid := v, phase := p, key := k, length := len, offset := o, vbuf := b
        rxSeen := s.rxToggle, txSeen := s.txToggle, evt := e, rdLast := l, draws := d } ∧
      (s.linkDesel = false → s.txPendingValid = true → v = true) := by
  unfold decodeState
  split
  · split
    · exact ⟨_, _, _, _, _, _, _, _, _, _, rfl, fun _ h => h⟩
    · exact ⟨_, _, _, _, _, _, _, _, _, _, rfl, fun _ h => h⟩
  · split
    · unfold onReadLength
      split
      · exact ⟨_, _, _, _, _, _, _, _, _, _, rfl, fun _ h => h⟩
      · exact ⟨_, _, _, _, _, _, _, _, _, _, rfl, fun _ h => h⟩
    · exact ⟨_, _, _, _, _, _, _, _, _, _, rfl, fun _ h => h⟩
  · split
    · unfold onWriteLength
      split
      · exact ⟨_, _, _, _, _, _, _, _, _, _, rfl, fun _ h => h⟩
      · exact ⟨_, _, _, _, _, _, _, _, _, _, rfl, fun _ h => h⟩
    · exact ⟨_, _, _, _, _, _, _, _, _, _, rfl, fun _ h => h⟩
  · split
    · unfold onValueWord
      split
      · exact ⟨_, _, _, _, _, _, _, _, _, _, rfl, fun _ h => h⟩
      · exact ⟨_, _, _, _, _, _, _, _, _, _, rfl, fun _ h => h⟩
    · exact ⟨_, _, _, _, _, _, _, _, _, _, rfl, fun _ h => h⟩
  · unfold onMasterRead
    split
    · exact ⟨_, _, _, _, _, _, _, _, _, _, rfl, fun _ h => h⟩
    · split
      · unfold onAcceptance
        split
        · exact ⟨_, _, _, _, _, _, _, _, _, _, rfl, fun _ h => h⟩
        · split
          · exact ⟨_, _, _, _, _, _, _, _, _, _, rfl, fun _ h => h⟩
          · obtain ⟨w, v, d, e, h1, _, _⟩ :=
              submitAt_eq (s.offset - 8#11) { observed s with offset := s.offset - 8#11 }
            exact ⟨w, v, _, _, _, _, _, _, _, d, e, fun h _ => h1 h⟩
      · exact ⟨_, _, _, _, _, _, _, _, _, _, rfl, fun _ h => h⟩

/-- Part 2 of a tick touches the decoder's own elements, the transmit queue and the draw counter alone (R150, R151). -/
theorem decodePart_eq (pending : Event) (s : State) :
    ∃ (w : Word) (v : Bool) (p : Phase) (k len : Word) (o : Offset) (b : Value) (rs ts : Bool) (e : Event)
      (l : Bool) (d : Nat),
      decodePart pending s = { s with
        txPending := w, txPendingValid := v, phase := p, key := k, length := len, offset := o, vbuf := b
        rxSeen := rs, txSeen := ts, evt := e, rdLast := l, draws := d } ∧
      (s.txPendingValid = true → v = true) := by
  unfold decodePart
  split
  · exact ⟨_, _, _, _, _, _, _, _, _, _, _, _, rfl, id⟩
  · next hd =>
    have hd : s.linkDesel = false := by simpa using hd
    split
    · obtain ⟨w, v, d, e, h1, _, _⟩ :=
        submitAt_eq s.offset { s with evt := .none, phase := .masterRead, rdLast := false }
      exact ⟨w, v, _, _, _, _, _, _, _, _, _, d, e, fun _ => h1 hd⟩
    · exact ⟨_, _, _, _, _, _, _, _, _, _, _, _, rfl, id⟩
    · obtain ⟨w, v, p, k, len, o, b, e, l, d, eq, h1⟩ := decodeState_eq s
      exact ⟨w, v, p, k, len, o, b, _, _, e, l, d, eq, h1 hd⟩

/-! ### The service tick of a frame -/

/-- The service tick of a read frame touches the decoder's elements, the transmit queue, `global_reset` and the draw
counter alone: no register, no peripheral, no entry of the table (R69, R150). -/
theorem readFrame_eq (key len : Word) (x : Value) (s : State) :
    ∃ (w : Word) (v : Bool) (p : Phase) (o : Offset) (b : Value) (rs ts : Bool) (l : Bool) (d : Nat),
      readFrame key len x s = { s with
        txPending := w, txPendingValid := v, phase := p, key := key, length := len, offset := o, vbuf := b
        rxSeen := rs, txSeen := ts, evt := .none, rdLast := l, globalReset := false, draws := d } ∧
      (s.txPendingValid = true → v = true) := by
  unfold readFrame
  split
  · split
    · exact ⟨_, _, _, _, _, _, _, _, _, rfl, id⟩
    · exact ⟨_, _, _, _, _, _, _, _, _, rfl, id⟩
  · split
    · exact ⟨_, _, _, _, _, _, _, _, _, rfl, id⟩
    · next hd =>
      have hd : s.linkDesel = false := by simpa using hd
      obtain ⟨w, v, d, e, h1, _, _⟩ := submitAt_eq (offsetOf len)
        { s with
          key := key, length := len, globalReset := false
          vbuf := putWindow s.vbuf len.toNat x
          offset := offsetOf len, evt := .none, phase := .masterRead, rdLast := false }
      exact ⟨w, v, _, _, _, _, _, _, d, e, fun _ => h1 hd⟩

/-- The end of a write frame touches the decoder's elements alone (R157, R160). -/
theorem endWrite_eq (s : State) :
    ∃ (o : Offset) (rs ts l : Bool),
      endWrite s = { s with
        phase := .readKey, offset := o, evt := .none, rdLast := l, rxSeen := rs, txSeen := ts } := by
  unfold endWrite
  split
  · exact ⟨_, _, _, _, rfl⟩
  · exact ⟨s.offset, s.rxSeen, s.txSeen, s.rdLast, rfl⟩

/-- A selected write frame that has a value: its window stored, its effect, and the decoder in `ReadKey` (R155, R157,
R193). -/
theorem writeFrame_selected (key : Word) (value : List Word) (effect : State → State) (s : State)
    (hd : (effect (received key value s)).linkDesel = false) (hv : value ≠ []) :
    writeFrame key value effect s =
      { effect (received key value s) with evt := .none, phase := .readKey } := by
  have : value.length ≠ 0 := by simpa using hv
  simp [writeFrame, this, endWrite, hd]

/-- An empty value has no effect, whatever the key (R191). -/
theorem writeFrame_empty (key : Word) (effect : State → State) (s : State) :
    writeFrame key [] effect s = endWrite (received key [] s) := rfl

end Sys2Proof.Machine
end

