-- ==== Sys2Proof/Laws/PerInstr.lean ====
section
/-! SUPPORT. Statements about every instruction as syntax, one lemma per constructor of Instr. -/

namespace Sys2Proof.Laws.FrameEncoding

open Sys2Proof Sys2Proof.Machine

/-- The frame of a well-formed instruction is a read frame under a key with bit 7 = 0 or a write frame of at most 255
value bytes under a key with bit 7 = 1 (R92 to R95), and its key alone selects the instruction among the frames of that
format (R99, R100). -/
def Statement (i : Instr) : Prop :=
  i.wellFormed = true →
    (isWriteKey i.key = false ∧ ∃ len, encode i = readWords i.key len ∧ decodeRead i.key len = i) ∨
    (isWriteKey i.key = true ∧ ∃ value : List Word, value.length ≤ 255 ∧
      encode i = writeWords i.key value ∧ decodeWrite i.key value = i)

/-- A key with no exact read row selects the default row (R99). -/
theorem decodeRead_unlisted (key len : Word) (h : listedRead key = false) :
    decodeRead key len = .rdUnknown key len := by
  unfold decodeRead
  split <;> first | rfl | (exfalso; revert h; decide)

/-- A key with no exact write row selects the default row (R99). -/
theorem decodeWrite_unlisted (key : Word) (value : List Word) (h : listedWrite key = false) :
    decodeWrite key value = .wrUnknown key value := by
  unfold decodeWrite
  split <;> first | rfl | (exfalso; revert h; decide)

/-- The check of a write frame's value bounds its length (R93). -/
theorem valueFits_length (value : List Word) (h : valueFits value = true) : value.length ≤ 255 := by
  simpa [valueFits] using h

theorem rdOdoCount1 (len : Word) : Statement (.rdOdoCount1 len) :=
  fun _ => .inl ⟨(by decide : isWriteKey 0x11#8 = false), len, rfl, rfl⟩
theorem rdOdoCount2 (len : Word) : Statement (.rdOdoCount2 len) :=
  fun _ => .inl ⟨(by decide : isWriteKey 0x12#8 = false), len, rfl, rfl⟩
theorem rdOdoCount3 (len : Word) : Statement (.rdOdoCount3 len) :=
  fun _ => .inl ⟨(by decide : isWriteKey 0x13#8 = false), len, rfl, rfl⟩
theorem rdOdoCount4 (len : Word) : Statement (.rdOdoCount4 len) :=
  fun _ => .inl ⟨(by decide : isWriteKey 0x14#8 = false), len, rfl, rfl⟩
theorem rdOdoCount5 (len : Word) : Statement (.rdOdoCount5 len) :=
  fun _ => .inl ⟨(by decide : isWriteKey 0x15#8 = false), len, rfl, rfl⟩
theorem rdOdoCount6 (len : Word) : Statement (.rdOdoCount6 len) :=
  fun _ => .inl ⟨(by decide : isWriteKey 0x16#8 = false), len, rfl, rfl⟩
theorem rdOdoSpeed1 (len : Word) : Statement (.rdOdoSpeed1 len) :=
  fun _ => .inl ⟨(by decide : isWriteKey 0x21#8 = false), len, rfl, rfl⟩
theorem rdOdoSpeed2 (len : Word) : Statement (.rdOdoSpeed2 len) :=
  fun _ => .inl ⟨(by decide : isWriteKey 0x22#8 = false), len, rfl, rfl⟩
theorem rdOdoSpeed3 (len : Word) : Statement (.rdOdoSpeed3 len) :=
  fun _ => .inl ⟨(by decide : isWriteKey 0x23#8 = false), len, rfl, rfl⟩
theorem rdOdoSpeed4 (len : Word) : Statement (.rdOdoSpeed4 len) :=
  fun _ => .inl ⟨(by decide : isWriteKey 0x24#8 = false), len, rfl, rfl⟩
theorem rdOdoSpeed5 (len : Word) : Statement (.rdOdoSpeed5 len) :=
  fun _ => .inl ⟨(by decide : isWriteKey 0x25#8 = false), len, rfl, rfl⟩
theorem rdOdoSpeed6 (len : Word) : Statement (.rdOdoSpeed6 len) :=
  fun _ => .inl ⟨(by decide : isWriteKey 0x26#8 = false), len, rfl, rfl⟩
theorem rdExtPort1 (len : Word) : Statement (.rdExtPort1 len) :=
  fun _ => .inl ⟨(by decide : isWriteKey 0x31#8 = false), len, rfl, rfl⟩
theorem rdExtPort2 (len : Word) : Statement (.rdExtPort2 len) :=
  fun _ => .inl ⟨(by decide : isWriteKey 0x32#8 = false), len, rfl, rfl⟩
theorem rdExtPort3 (len : Word) : Statement (.rdExtPort3 len) :=
  fun _ => .inl ⟨(by decide : isWriteKey 0x33#8 = false), len, rfl, rfl⟩
theorem rdExtPort4 (len : Word) : Statement (.rdExtPort4 len) :=
  fun _ => .inl ⟨(by decide : isWriteKey 0x34#8 = false), len, rfl, rfl⟩
theorem rdExtPort5 (len : Word) : Statement (.rdExtPort5 len) :=
  fun _ => .inl ⟨(by decide : isWriteKey 0x35#8 = false), len, rfl, rfl⟩
theorem rdExtPort6 (len : Word) : Statement (.rdExtPort6 len) :=
  fun _ => .inl ⟨(by decide : isWriteKey 0x36#8 = false), len, rfl, rfl⟩
theorem rdExtPort7 (len : Word) : Statement (.rdExtPort7 len) :=
  fun _ => .inl ⟨(by decide : isWriteKey 0x37#8 = false), len, rfl, rfl⟩
theorem rdDiagConst (len : Word) : Statement (.rdDiagConst len) :=
  fun _ => .inl ⟨(by decide : isWriteKey 0x42#8 = false), len, rfl, rfl⟩
theorem rdDiag1 (len : Word) : Statement (.rdDiag1 len) :=
  fun _ => .inl ⟨(by decide : isWriteKey 0x71#8 = false), len, rfl, rfl⟩
theorem rdDiag2 (len : Word) : Statement (.rdDiag2 len) :=
  fun _ => .inl ⟨(by decide : isWriteKey 0x72#8 = false), len, rfl, rfl⟩
theorem rdDiag3 (len : Word) : Statement (.rdDiag3 len) :=
  fun _ => .inl ⟨(by decide : isWriteKey 0x73#8 = false), len, rfl, rfl⟩
theorem rdDiag4 (len : Word) : Statement (.rdDiag4 len) :=
  fun _ => .inl ⟨(by decide : isWriteKey 0x74#8 = false), len, rfl, rfl⟩
theorem rdDiag5 (len : Word) : Statement (.rdDiag5 len) :=
  fun _ => .inl ⟨(by decide : isWriteKey 0x75#8 = false), len, rfl, rfl⟩
theorem rdDiag6 (len : Word) : Statement (.rdDiag6 len) :=
  fun _ => .inl ⟨(by decide : isWriteKey 0x76#8 = false), len, rfl, rfl⟩
theorem wrReset (value : List Word) : Statement (.wrReset value) :=
  fun h => .inr ⟨(by decide : isWriteKey 0x81#8 = true), value, valueFits_length value h, rfl, rfl⟩
theorem wrLedGreen (value : List Word) : Statement (.wrLedGreen value) :=
  fun h => .inr ⟨(by decide : isWriteKey 0x82#8 = true), value, valueFits_length value h, rfl, rfl⟩
theorem wrLedB (value : List Word) : Statement (.wrLedB value) :=
  fun h => .inr ⟨(by decide : isWriteKey 0x83#8 = true), value, valueFits_length value h, rfl, rfl⟩
theorem wrLedC (value : List Word) : Statement (.wrLedC value) :=
  fun h => .inr ⟨(by decide : isWriteKey 0x84#8 = true), value, valueFits_length value h, rfl, rfl⟩
theorem wrMotor1 (value : List Word) : Statement (.wrMotor1 value) :=
  fun h => .inr ⟨(by decide : isWriteKey 0x91#8 = true), value, valueFits_length value h, rfl, rfl⟩
theorem wrMotor2 (value : List Word) : Statement (.wrMotor2 value) :=
  fun h => .inr ⟨(by decide : isWriteKey 0x92#8 = true), value, valueFits_length value h, rfl, rfl⟩
theorem wrMotor3 (value : List Word) : Statement (.wrMotor3 value) :=
  fun h => .inr ⟨(by decide : isWriteKey 0x93#8 = true), value, valueFits_length value h, rfl, rfl⟩
theorem wrMotor4 (value : List Word) : Statement (.wrMotor4 value) :=
  fun h => .inr ⟨(by decide : isWriteKey 0x94#8 = true), value, valueFits_length value h, rfl, rfl⟩
theorem wrMotor5 (value : List Word) : Statement (.wrMotor5 value) :=
  fun h => .inr ⟨(by decide : isWriteKey 0x95#8 = true), value, valueFits_length value h, rfl, rfl⟩
theorem wrMotor6 (value : List Word) : Statement (.wrMotor6 value) :=
  fun h => .inr ⟨(by decide : isWriteKey 0x96#8 = true), value, valueFits_length value h, rfl, rfl⟩
theorem wrMotor7 (value : List Word) : Statement (.wrMotor7 value) :=
  fun h => .inr ⟨(by decide : isWriteKey 0x97#8 = true), value, valueFits_length value h, rfl, rfl⟩
theorem wrMotor8 (value : List Word) : Statement (.wrMotor8 value) :=
  fun h => .inr ⟨(by decide : isWriteKey 0x98#8 = true), value, valueFits_length value h, rfl, rfl⟩
theorem wrServo1 (value : List Word) : Statement (.wrServo1 value) :=
  fun h => .inr ⟨(by decide : isWriteKey 0xA1#8 = true), value, valueFits_length value h, rfl, rfl⟩
theorem wrServo2 (value : List Word) : Statement (.wrServo2 value) :=
  fun h => .inr ⟨(by decide : isWriteKey 0xA2#8 = true), value, valueFits_length value h, rfl, rfl⟩
theorem wrServo3 (value : List Word) : Statement (.wrServo3 value) :=
  fun h => .inr ⟨(by decide : isWriteKey 0xA3#8 = true), value, valueFits_length value h, rfl, rfl⟩
theorem wrServo4 (value : List Word) : Statement (.wrServo4 value) :=
  fun h => .inr ⟨(by decide : isWriteKey 0xA4#8 = true), value, valueFits_length value h, rfl, rfl⟩
theorem wrServo5 (value : List Word) : Statement (.wrServo5 value) :=
  fun h => .inr ⟨(by decide : isWriteKey 0xA5#8 = true), value, valueFits_length value h, rfl, rfl⟩
theorem wrServo6 (value : List Word) : Statement (.wrServo6 value) :=
  fun h => .inr ⟨(by decide : isWriteKey 0xA6#8 = true), value, valueFits_length value h, rfl, rfl⟩
theorem wrServo7 (value : List Word) : Statement (.wrServo7 value) :=
  fun h => .inr ⟨(by decide : isWriteKey 0xA7#8 = true), value, valueFits_length value h, rfl, rfl⟩
theorem wrServo8 (value : List Word) : Statement (.wrServo8 value) :=
  fun h => .inr ⟨(by decide : isWriteKey 0xA8#8 = true), value, valueFits_length value h, rfl, rfl⟩
theorem wrCtrl1 (value : List Word) : Statement (.wrCtrl1 value) :=
  fun h => .inr ⟨(by decide : isWriteKey 0xB1#8 = true), value, valueFits_length value h, rfl, rfl⟩
theorem wrCtrl2 (value : List Word) : Statement (.wrCtrl2 value) :=
  fun h => .inr ⟨(by decide : isWriteKey 0xB2#8 = true), value, valueFits_length value h, rfl, rfl⟩
theorem wrCtrl3 (value : List Word) : Statement (.wrCtrl3 value) :=
  fun h => .inr ⟨(by decide : isWriteKey 0xB3#8 = true), value, valueFits_length value h, rfl, rfl⟩
theorem wrCtrl4 (value : List Word) : Statement (.wrCtrl4 value) :=
  fun h => .inr ⟨(by decide : isWriteKey 0xB4#8 = true), value, valueFits_length value h, rfl, rfl⟩
theorem wrCtrl5 (value : List Word) : Statement (.wrCtrl5 value) :=
  fun h => .inr ⟨(by decide : isWriteKey 0xB5#8 = true), value, valueFits_length value h, rfl, rfl⟩
theorem wrCtrl6 (value : List Word) : Statement (.wrCtrl6 value) :=
  fun h => .inr ⟨(by decide : isWriteKey 0xB6#8 = true), value, valueFits_length value h, rfl, rfl⟩
theorem wrCtrl7 (value : List Word) : Statement (.wrCtrl7 value) :=
  fun h => .inr ⟨(by decide : isWriteKey 0xB7#8 = true), value, valueFits_length value h, rfl, rfl⟩
theorem rdUnknown (key len : Word) : Statement (.rdUnknown key len) := by
  intro h
  have h' : key.msb = false ∧ listedRead key = false := by
    simpa [Instr.wellFormed, Bool.and_eq_true] using h
  exact .inl ⟨h'.1, len, rfl, decodeRead_unlisted key len h'.2⟩
theorem wrUnknown (key : Word) (value : List Word) : Statement (.wrUnknown key value) := by
  intro h
  have h' : (key.msb = true ∧ listedWrite key = false) ∧ valueFits value = true := by
    simpa [Instr.wellFormed, Bool.and_eq_true] using h
  exact .inr ⟨h'.1.1, value, valueFits_length value h'.2, rfl, decodeWrite_unlisted key value h'.1.2⟩

end Sys2Proof.Laws.FrameEncoding
end

