-- ==== Sys2Proof/Laws/Step.lean ====
section
/-! SUPPORT. What a tick and a step can do, said once: the inversions of `tick` and `step`. -/

namespace Sys2Proof.Machine

/-- A tick is one of three things: the core's reset, the frame that is due, or FrameDecoder's own transition. -/
theorem tick_cases (s t : State) (h : tick s = .next t) :
    (s.globalReset = true ∧ Config.resetLoopback = true ∧ t = coreReset s) ∨
    (∃ u words i rest, frameDue s = some (u, words) ∧ decode words = .ok (i, rest) ∧ exec i u = .next t) ∨
    t = decoderTick s := by
  unfold tick at h
  split at h
  · next hg =>
    rw [Bool.and_eq_true] at hg
    exact .inl ⟨hg.1, hg.2, by injection h with h; exact h.symm⟩
  · split at h
    · exact .inr (.inr (by injection h with h; exact h.symm))
    · next u words hf =>
      split at h
      · next i rest hd => exact .inr (.inl ⟨u, words, i, rest, hf, hd, h⟩)
      · exact .inr (.inr (by injection h with h; exact h.symm))

/-- A frame is due in one of three ways: a read-request, a write-complete, or the zero length Word of a read. -/
theorem frameDue_cases (s u : State) (words : List Word) (h : frameDue s = some (u, words)) :
    (s.evt = .readReq ∧ isWriteKey s.key = false ∧ s.length ≠ 0#8 ∧ s.offset = offsetOf s.length ∧ u = s ∧
      words = [s.key, s.length]) ∨
    (s.evt = .writeDone ∧ isWriteKey s.key = true ∧ (s.length = 0#8 ∨ s.offset = 0#11) ∧ u = s ∧
      words = s.key :: s.length :: bytesOf s.vbuf s.length.toNat) ∨
    (s.evt = .none ∧ s.linkDesel = false ∧ s.phase = .getReadLength ∧ rxNew s = true ∧ s.rxWord = 0#8 ∧
      isWriteKey s.key = false ∧ u = observed s ∧ words = [s.key, 0#8]) := by
  unfold frameDue at h
  split at h
  · next he =>
    split at h
    · next hc =>
      injection h with h
      injection h with h1 h2
      simp only [Bool.and_eq_true, Bool.not_eq_true', bne_iff_ne, beq_iff_eq] at hc
      exact .inl ⟨he, hc.1.1, hc.1.2, hc.2, h1.symm, h2.symm⟩
    · cases h
  · next he =>
    split at h
    · next hc =>
      injection h with h
      injection h with h1 h2
      simp only [Bool.and_eq_true, Bool.or_eq_true, beq_iff_eq] at hc
      exact .inr (.inl ⟨he, hc.1, hc.2, h1.symm, h2.symm⟩)
    · cases h
  · next he =>
    split at h
    · next hc =>
      injection h with h
      injection h with h1 h2
      simp only [Bool.and_eq_true, Bool.not_eq_true', beq_iff_eq] at hc
      obtain ⟨⟨⟨⟨a, b⟩, c⟩, d⟩, e⟩ := hc
      exact .inr (.inr ⟨he, a, b, c, d, e, h1.symm, by rw [← h2, d]⟩)
    · cases h

/-- The frames that are due decode: a read frame under a key with bit 7 = 0, a write frame, with all its value bytes,
under a key with bit 7 = 1 (R92, R98). -/
theorem decode_read (key len : Word) (rest : List Word) (h : isWriteKey key = false) :
    decode (key :: len :: rest) = .ok (decodeRead key len, rest) := by
  have : key.msb = false := h
  simp [decode, this]

theorem decode_write (key len : Word) (value rest : List Word) (h : isWriteKey key = true)
    (hl : value.length = len.toNat) :
    decode (key :: len :: value ++ rest) = .ok (decodeWrite key value, rest) := by
  have : key.msb = true := h
  simp [decode, this, ← hl]

/-- A step is one of seven things, by the next event. -/
theorem step_cases (s t : State) (h : step s = .next t) :
    (s.inputs = [] ∧ tick s = .next t) ∨
    (∃ rest, s.inputs = .tick :: rest ∧ tick { s with inputs := rest } = .next t) ∨
    (∃ rest, s.inputs = .select :: rest ∧ t = onSelect { s with inputs := rest }) ∨
    (∃ rest, s.inputs = .deselect :: rest ∧ t = onDeselect { s with inputs := rest }) ∨
    (∃ rest, s.inputs = .rise :: rest ∧ t = onRise { s with inputs := rest }) ∨
    (∃ b rest, s.inputs = .fall b :: rest ∧ t = onFall b { s with inputs := rest }) ∨
    (∃ k v rest, s.inputs = .periph k v :: rest ∧ t = supply k v { s with inputs := rest }) := by
  unfold step at h
  split at h
  · next e => exact .inl ⟨e, h⟩
  · next rest e => exact .inr (.inl ⟨rest, e, h⟩)
  · next rest e => exact .inr (.inr (.inl ⟨rest, e, by injection h with h; exact h.symm⟩))
  · next rest e => exact .inr (.inr (.inr (.inl ⟨rest, e, by injection h with h; exact h.symm⟩)))
  · next rest e => exact .inr (.inr (.inr (.inr (.inl ⟨rest, e, by injection h with h; exact h.symm⟩))))
  · next b rest e => exact .inr (.inr (.inr (.inr (.inr (.inl ⟨b, rest, e, by injection h with h; exact h.symm⟩)))))
  · next k v rest e =>
    exact .inr (.inr (.inr (.inr (.inr (.inr ⟨k, v, rest, e, by injection h with h; exact h.symm⟩)))))

end Sys2Proof.Machine
end

