-- ==== Sys2Proof/Tests/Slice0.lean ====
section
/-! SUPPORT. The model's own tests: the refusals of WellFormed, the decoding of one written-out frame per row of the opcode
table, vectors of 95_test_vectors, and for each obligation a state that meets its hypotheses. Expected values stand in the
spec, at the place named. -/

namespace Sys2Proof.Tests

open Sys2Proof Sys2Proof.Machine

/-! ### WellFormed -/

theorem valueFits_replicate (n : Nat) (w : Word) : valueFits (List.replicate n w) = decide (n ≤ 255) := by
  simp [valueFits]

/-- RD.UNKNOWN carries no write key (R92). -/
theorem test_wf_rdUnknown_write_key : (Instr.rdUnknown 0x99#8 2#8).wellFormed = false := by decide
/-- RD.UNKNOWN carries no listed key: an exact row wins (R100). -/
theorem test_wf_rdUnknown_listed : (Instr.rdUnknown 0x42#8 4#8).wellFormed = false := by decide
/-- WR.UNKNOWN carries no read key (R92). -/
theorem test_wf_wrUnknown_read_key : (Instr.wrUnknown 0x19#8 [1#8]).wellFormed = false := by decide
/-- WR.UNKNOWN carries no listed key (R100). -/
theorem test_wf_wrUnknown_listed : (Instr.wrUnknown 0x91#8 [1#8]).wellFormed = false := by decide
/-- A value of 256 bytes has no length byte (R93). -/
theorem test_wf_wrUnknown_long : (Instr.wrUnknown 0x99#8 (List.replicate 256 0#8)).wellFormed = false := by
  show ((0x99#8 : Word).msb && !listedWrite 0x99#8 && valueFits (List.replicate 256 0#8)) = false
  rw [valueFits_replicate]
  decide
/-- The same for a listed key (R93). -/
theorem test_wf_wrMotor1_long : (Instr.wrMotor1 (List.replicate 256 0#8)).wellFormed = false := 
  (valueFits_replicate 256 0#8).trans (by decide)

/-! ### Decoding: one frame per row, the key bits as spec/opcode_table.json gives them -/

theorem test_decode_rdOdoCount1 : decode [0b00010001#8, 0b00000100#8] = .ok (.rdOdoCount1 4#8, []) := rfl
theorem test_decode_rdOdoCount2 : decode [0b00010010#8, 0b00000100#8] = .ok (.rdOdoCount2 4#8, []) := rfl
theorem test_decode_rdOdoCount3 : decode [0b00010011#8, 0b00000100#8] = .ok (.rdOdoCount3 4#8, []) := rfl
theorem test_decode_rdOdoCount4 : decode [0b00010100#8, 0b00000100#8] = .ok (.rdOdoCount4 4#8, []) := rfl
theorem test_decode_rdOdoCount5 : decode [0b00010101#8, 0b00000100#8] = .ok (.rdOdoCount5 4#8, []) := rfl
theorem test_decode_rdOdoCount6 : decode [0b00010110#8, 0b00000100#8] = .ok (.rdOdoCount6 4#8, []) := rfl
theorem test_decode_rdOdoSpeed1 : decode [0b00100001#8, 0b00000100#8] = .ok (.rdOdoSpeed1 4#8, []) := rfl
theorem test_decode_rdOdoSpeed2 : decode [0b00100010#8, 0b00000100#8] = .ok (.rdOdoSpeed2 4#8, []) := rfl
theorem test_decode_rdOdoSpeed3 : decode [0b00100011#8, 0b00000100#8] = .ok (.rdOdoSpeed3 4#8, []) := rfl
theorem test_decode_rdOdoSpeed4 : decode [0b00100100#8, 0b00000100#8] = .ok (.rdOdoSpeed4 4#8, []) := rfl
theorem test_decode_rdOdoSpeed5 : decode [0b00100101#8, 0b00000100#8] = .ok (.rdOdoSpeed5 4#8, []) := rfl
theorem test_decode_rdOdoSpeed6 : decode [0b00100110#8, 0b00000100#8] = .ok (.rdOdoSpeed6 4#8, []) := rfl
theorem test_decode_rdExtPort1 : decode [0b00110001#8, 0b00000100#8] = .ok (.rdExtPort1 4#8, []) := rfl
theorem test_decode_rdExtPort2 : decode [0b00110010#8, 0b00000100#8] = .ok (.rdExtPort2 4#8, []) := rfl
theorem test_decode_rdExtPort3 : decode [0b00110011#8, 0b00000100#8] = .ok (.rdExtPort3 4#8, []) := rfl
theorem test_decode_rdExtPort4 : decode [0b00110100#8, 0b00000100#8] = .ok (.rdExtPort4 4#8, []) := rfl
theorem test_decode_rdExtPort5 : decode [0b00110101#8, 0b00000100#8] = .ok (.rdExtPort5 4#8, []) := rfl
theorem test_decode_rdExtPort6 : decode [0b00110110#8, 0b00000100#8] = .ok (.rdExtPort6 4#8, []) := rfl
theorem test_decode_rdExtPort7 : decode [0b00110111#8, 0b00000100#8] = .ok (.rdExtPort7 4#8, []) := rfl
theorem test_decode_rdDiagConst : decode [0b01000010#8, 0b00000100#8] = .ok (.rdDiagConst 4#8, []) := rfl
theorem test_decode_rdDiag1 : decode [0b01110001#8, 0b00000100#8] = .ok (.rdDiag1 4#8, []) := rfl
theorem test_decode_rdDiag2 : decode [0b01110010#8, 0b00000100#8] = .ok (.rdDiag2 4#8, []) := rfl
theorem test_decode_rdDiag3 : decode [0b01110011#8, 0b00000100#8] = .ok (.rdDiag3 4#8, []) := rfl
theorem test_decode_rdDiag4 : decode [0b01110100#8, 0b00000100#8] = .ok (.rdDiag4 4#8, []) := rfl
theorem test_decode_rdDiag5 : decode [0b01110101#8, 0b00000100#8] = .ok (.rdDiag5 4#8, []) := rfl
theorem test_decode_rdDiag6 : decode [0b01110110#8, 0b00000100#8] = .ok (.rdDiag6 4#8, []) := rfl
theorem test_decode_wrReset : decode [0b10000001#8, 0b00000001#8, 0x05#8] = .ok (.wrReset [0x05#8], []) := rfl
theorem test_decode_wrLedGreen : decode [0b10000010#8, 0b00000001#8, 0x05#8] = .ok (.wrLedGreen [0x05#8], []) := rfl
theorem test_decode_wrLedB : decode [0b10000011#8, 0b00000001#8, 0x05#8] = .ok (.wrLedB [0x05#8], []) := rfl
theorem test_decode_wrLedC : decode [0b10000100#8, 0b00000001#8, 0x05#8] = .ok (.wrLedC [0x05#8], []) := rfl
theorem test_decode_wrMotor1 : decode [0b10010001#8, 0b00000001#8, 0x05#8] = .ok (.wrMotor1 [0x05#8], []) := rfl
theorem test_decode_wrMotor2 : decode [0b10010010#8, 0b00000001#8, 0x05#8] = .ok (.wrMotor2 [0x05#8], []) := rfl
theorem test_decode_wrMotor3 : decode [0b10010011#8, 0b00000001#8, 0x05#8] = .ok (.wrMotor3 [0x05#8], []) := rfl
theorem test_decode_wrMotor4 : decode [0b10010100#8, 0b00000001#8, 0x05#8] = .ok (.wrMotor4 [0x05#8], []) := rfl
theorem test_decode_wrMotor5 : decode [0b10010101#8, 0b00000001#8, 0x05#8] = .ok (.wrMotor5 [0x05#8], []) := rfl
theorem test_decode_wrMotor6 : decode [0b10010110#8, 0b00000001#8, 0x05#8] = .ok (.wrMotor6 [0x05#8], []) := rfl
theorem test_decode_wrMotor7 : decode [0b10010111#8, 0b00000001#8, 0x05#8] = .ok (.wrMotor7 [0x05#8], []) := rfl
theorem test_decode_wrMotor8 : decode [0b10011000#8, 0b00000001#8, 0x05#8] = .ok (.wrMotor8 [0x05#8], []) := rfl
theorem test_decode_wrServo1 : decode [0b10100001#8, 0b00000001#8, 0x05#8] = .ok (.wrServo1 [0x05#8], []) := rfl
theorem test_decode_wrServo2 : decode [0b10100010#8, 0b00000001#8, 0x05#8] = .ok (.wrServo2 [0x05#8], []) := rfl
theorem test_decode_wrServo3 : decode [0b10100011#8, 0b00000001#8, 0x05#8] = .ok (.wrServo3 [0x05#8], []) := rfl
theorem test_decode_wrServo4 : decode [0b10100100#8, 0b00000001#8, 0x05#8] = .ok (.wrServo4 [0x05#8], []) := rfl
theorem test_decode_wrServo5 : decode [0b10100101#8, 0b00000001#8, 0x05#8] = .ok (.wrServo5 [0x05#8], []) := rfl
theorem test_decode_wrServo6 : decode [0b10100110#8, 0b00000001#8, 0x05#8] = .ok (.wrServo6 [0x05#8], []) := rfl
theorem test_decode_wrServo7 : decode [0b10100111#8, 0b00000001#8, 0x05#8] = .ok (.wrServo7 [0x05#8], []) := rfl
theorem test_decode_wrServo8 : decode [0b10101000#8, 0b00000001#8, 0x05#8] = .ok (.wrServo8 [0x05#8], []) := rfl
theorem test_decode_wrCtrl1 : decode [0b10110001#8, 0b00000001#8, 0x05#8] = .ok (.wrCtrl1 [0x05#8], []) := rfl
theorem test_decode_wrCtrl2 : decode [0b10110010#8, 0b00000001#8, 0x05#8] = .ok (.wrCtrl2 [0x05#8], []) := rfl
theorem test_decode_wrCtrl3 : decode [0b10110011#8, 0b00000001#8, 0x05#8] = .ok (.wrCtrl3 [0x05#8], []) := rfl
theorem test_decode_wrCtrl4 : decode [0b10110100#8, 0b00000001#8, 0x05#8] = .ok (.wrCtrl4 [0x05#8], []) := rfl
theorem test_decode_wrCtrl5 : decode [0b10110101#8, 0b00000001#8, 0x05#8] = .ok (.wrCtrl5 [0x05#8], []) := rfl
theorem test_decode_wrCtrl6 : decode [0b10110110#8, 0b00000001#8, 0x05#8] = .ok (.wrCtrl6 [0x05#8], []) := rfl
theorem test_decode_wrCtrl7 : decode [0b10110111#8, 0b00000001#8, 0x05#8] = .ok (.wrCtrl7 [0x05#8], []) := rfl
/-- `RD.UNKNOWN`: key 0kkkkkkk with kkkkkkk = 0011001, length 2 (R264, V40). -/
theorem test_decode_rdUnknown : decode [0b00011001#8, 0b00000010#8] = .ok (.rdUnknown 0x19#8 2#8, []) := rfl
/-- `WR.UNKNOWN`: key 1kkkkkkk with kkkkkkk = 0011001, two value bytes (R265, V45). -/
theorem test_decode_wrUnknown :
    decode [0b10011001#8, 0b00000010#8, 0xAA#8, 0xBB#8] = .ok (.wrUnknown 0x99#8 [0xAA#8, 0xBB#8], []) := rfl

/-- What the decoder refuses: no Word, a key alone, a value that is cut short (R91). -/
theorem test_decode_refusals :
    decode [] = .error .noKey ∧ decode [0x42#8] = .error .noLength ∧
      decode [0x91#8, 2#8, 0#8] = .error .shortValue := ⟨rfl, rfl, rfl⟩

/-- The Words after a frame are the next frame's (R105). -/
theorem test_decode_rest : decode [0x82#8, 1#8, 1#8, 0x42#8] = .ok (.wrLedGreen [1#8], [0x42#8]) := rfl

theorem test_table_word_read : decodeTableWord 8 0x42 = some (.rdDiagConst 0#8) := by decide
theorem test_table_word_write : decodeTableWord 8 0x82 = some (.wrLedGreen []) := by decide
theorem test_table_word_bits : decodeTableWord 24 0x010182 = some (.wrLedGreen [1#8]) := by decide

/-! ### States for the tests -/

/-- One field of a next state. -/
def field {α : Type} (r : Result) (f : State → α) : Option α :=
  match r with
  | .next t => some (f t)
  | _ => none

/-- After reset and `Select`, the value buffer and the queue cleared. -/
def quiet : State := { State.reset with linkDesel := false, vbuf := 0#64, txPending := 0#8 }

/-- A Word `w` has just completed in the decoder's state `p`. -/
def onWord (p : Phase) (w : Word) : State := { quiet with phase := p, rxWord := w, rxToggle := true }

/-- The same in the middle of a write frame of two bytes to key 0x91. -/
def midWrite : State := { onWord .masterWrite 0x0A#8 with key := 0x91#8, length := 2#8, offset := 8#11 }

/-- A read frame of key 0x42 whose window has been filled, at offset `o`. -/
def midRead (o : Offset) : State :=
  { quiet with phase := .masterRead, key := 0x42#8, length := 4#8, offset := o, vbuf := 0xDEADC0DE#64 }

/-- A table extended as in V66, V67 and V68: 0x50 write-only, 0x51 mirroring 0xA1, 0x52 mirroring 0xA8, 0x53 mirroring
0xD1, 0xD0 read-only, 0xD1 writable. -/
def extended : List PlatformEntry :=
  [{ key := 0x50#8, width := 16, signedness := .unsigned, direction := .writeOnly, mirrors := none, pattern := 7 },
   { key := 0x51#8, width := 16, signedness := .unsigned, direction := .readOnly, mirrors := some 0xA1#8, pattern := 0 },
   { key := 0x52#8, width := 16, signedness := .unsigned, direction := .readOnly, mirrors := some 0xA8#8, pattern := 0 },
   { key := 0x53#8, width := 12, signedness := .signed, direction := .readOnly, mirrors := some 0xD1#8, pattern := 0 },
   { key := 0xD0#8, width := 8, signedness := .unsigned, direction := .readOnly, mirrors := none, pattern := 3 },
   { key := 0xD1#8, width := 12, signedness := .signed, direction := .writeOnly, mirrors := none, pattern := 5 }]

/-- `quiet` with the extended table. -/
def platformState : State := { quiet with platform := extended }

/-! ### Frames -/

/-- V46: `MemRead(0x42, 4)` starts with DE and fills the window with DEADC0DE (R230). -/
theorem test_read_diagConst :
    field (exec (.rdDiagConst 4#8) quiet) (fun t => (t.vbuf, t.txPending, t.offset)) =
      some (0xDEADC0DE#64, 0xDE#8, 24#11) := by decide
/-- V47: the bytes above the register are zero (R185). -/
theorem test_read_diagConst_long :
    field (exec (.rdDiagConst 5#8) quiet) (fun t => (t.vbuf, t.txPending)) = some (0xDEADC0DE#64, 0x00#8) := by decide
/-- V48: `get(0x31) = 0xA5`, three bytes: 00 00 A5 (R185). -/
theorem test_read_extPort1 :
    field (exec (.rdExtPort1 3#8) { quiet with periph := { quiet.periph with extPort1 := 0xA5#8 }, vbuf := 0xFFFFFFFF#64 })
      (fun t => (t.vbuf, t.txPending)) = some (0xFF0000A5#64, 0x00#8) := by decide
/-- V73: `get(0x37) = 0x81`, one byte (R229). -/
theorem test_read_extPort7 :
    field (exec (.rdExtPort7 1#8) { quiet with periph := { quiet.periph with extPort7 := 0x81#8 } })
      (fun t => t.txPending) = some 0x81#8 := by decide
/-- V40: `MemRead(0x19, 2)` is F0 0D (R182). -/
theorem test_read_unknown :
    field (exec (.rdUnknown 0x19#8 2#8) quiet) (fun t => (t.vbuf, t.txPending)) = some (0xF00D#64, 0xF0#8) := by decide
/-- V49a: of nine bytes the last eight are the sentinel; the buffer holds all of it (R195). -/
theorem test_read_unknown_long :
    field (exec (.rdUnknown 0x19#8 9#8) quiet) (fun t => (t.vbuf, t.offset, t.draws)) =
      some (0xDEADBEEFBAADF00D#64, 64#11, 1) := by decide
/-- V58: `WR 0x82, 1, 03` leaves bit 0 (R192). -/
theorem test_write_ledGreen : field (exec (.wrLedGreen [0x03#8]) quiet) (fun t => t.regs.ledGreen) = some 1#1 := by decide
/-- V59: `WR 0x82, 2, 01 00` leaves bit 0 of the last byte (R190). -/
theorem test_write_ledGreen_long :
    field (exec (.wrLedGreen [0x01#8, 0x00#8]) quiet) (fun t => t.regs.ledGreen) = some 0#1 := by decide
theorem test_write_ledB : field (exec (.wrLedB [0xFF#8]) quiet) (fun t => t.regs.ledB) = some 1#1 := by decide
theorem test_write_ledC : field (exec (.wrLedC [0x02#8]) quiet) (fun t => t.regs.ledC) = some 0#1 := by decide
/-- V60: `WR 0xA1, 2, 0B B8` leaves 3000 (R249). -/
theorem test_write_servo1 :
    field (exec (.wrServo1 [0x0B#8, 0xB8#8]) quiet) (fun t => t.regs.servo1) = some 3000#16 := by decide
/-- R189's example: 0x1234, one byte FF, gives 0x12FF. -/
theorem test_write_servo1_short :
    field (exec (.wrServo1 [0xFF#8]) { quiet with regs := { quiet.regs with servo1 := 0x1234#16 } })
      (fun t => t.regs.servo1) = some 0x12FF#16 := by decide
/-- R190's example: four bytes AA BB 12 34 give 0x1234. -/
theorem test_write_servo8_long :
    field (exec (.wrServo8 [0xAA#8, 0xBB#8, 0x12#8, 0x34#8]) quiet) (fun t => t.regs.servo8) = some 0x1234#16 := by decide
/-- V61: any value pulses `global_reset` (R237). -/
theorem test_write_reset : field (exec (.wrReset [0x00#8]) quiet) (fun t => t.globalReset) = some true := by decide
/-- V62: an empty value does not (R191). -/
theorem test_write_reset_empty : field (exec (.wrReset []) quiet) (fun t => t.globalReset) = some false := by decide
/-- V45: the window takes AABB, nothing else happens (R188). -/
theorem test_write_unknown :
    field (exec (.wrUnknown 0x99#8 [0xAA#8, 0xBB#8]) quiet) (fun t => (t.vbuf, t.length, t.phase, t.draws)) =
      some (0xAABB#64, 2#8, Phase.readKey, 0) := by decide
/-- An added 12-bit register: `WR 0xD1, 2, 10 0A` leaves 0x00A, bit 12 of the value is dropped (the rule of V57). -/
theorem test_write_added :
    field (exec (.wrUnknown 0xD1#8 [0x10#8, 0x0A#8]) platformState)
      (fun t => (t.platformEntry 0xD1#8).map PlatformEntry.pattern) = some (some 0x00A) := by decide
/-- V57: with a width of 12, FF6 is −10 and 800 is −2048 (R187, R197). -/
theorem test_native_signed :
    nativeValue .signed 0xFF6#12 = -10 ∧ nativeValue .signed 0x800#12 = -2048 ∧ nativeValue .unsigned 0xFFF6#16 = 65526 := by
  decide
/-- V60 and V51 by width: a motor pattern is the low bits of the value, or the value over what stood there (R189, R190). -/
theorem test_merge :
    mergePattern 0x1234#16 1 0x05#64 = 0x1205#16 ∧ mergePattern 0x1234#16 3 0x01FFF6#64 = 0xFFF6#16 := by decide
/-- V33: a write-complete raised before the deselection is seen is serviced (R290). -/
theorem test_write_deselected :
    field (exec (.wrServo2 [0x12#8, 0x34#8]) { quiet with linkDesel := true, phase := .masterWrite })
      (fun t => (t.regs.servo2, t.phase)) = some (0x1234#16, Phase.readKey) := by decide

/-! ### Link events and ticks -/

/-- R123's example, its last bit: seven bits of 0x82 sampled, then `Fall(0)`. -/
theorem test_fall_completes :
    field (step { quiet with rxShift := 0x41#8, rxCnt := 7#3, inputs := [.fall false] })
      (fun t => (t.rxWord, t.rxToggle, t.rxCnt)) = some (0x82#8, true, 0#3) := by decide
/-- V5, its first bit: 0xDE is latched and bit 7 driven (R124). -/
theorem test_rise_latches :
    field (step { quiet with txPending := 0xDE#8, txPendingValid := true, inputs := [.rise] })
      (fun t => (t.linkOut, t.txShift, t.txCnt, t.txToggle, t.txPendingValid)) =
        some (true, 0xBC#8, 1#3, true, false) := by decide
/-- V11, its `Deselect`: counters to 0, flags untouched (R126). -/
theorem test_deselect :
    field (step { quiet with rxCnt := 3#3, txCnt := 3#3, txToggle := true, inputs := [.deselect] })
      (fun t => (t.linkDesel, t.rxCnt, t.txCnt, t.txToggle, t.rxToggle)) = some (true, 0#3, 0#3, true, false) := by decide
/-- V13: `Deselect` while deselected changes nothing. -/
theorem test_deselect_again :
    field (step { State.reset with linkOut := true, inputs := [.deselect] }) (fun t => (t.linkOut, t.draws)) =
      some (true, 0) := by decide
/-- V8: a submission while deselected is not accepted (R125). -/
theorem test_submit_deselected : (submit 0x55#8 State.reset).txPendingValid = false := by decide
/-- V22: 0x80 opens a write frame. -/
theorem test_tick_key : field (tick (onWord .readKey 0x80#8)) (fun t => (t.key, t.phase)) =
    some (0x80#8, Phase.getWriteLength) := by decide
/-- V27: length 255 starts at offset 2032. -/
theorem test_tick_read_length :
    field (tick (onWord .getReadLength 255#8)) (fun t => (t.length, t.offset, t.evt)) =
      some (255#8, 2032#11, Event.readReq) := by decide
/-- V26: length 2 starts at offset 8. -/
theorem test_tick_write_length :
    field (tick (onWord .getWriteLength 2#8)) (fun t => (t.offset, t.phase, t.evt)) =
      some (8#11, Phase.masterWrite, Event.none) := by decide
/-- R155's example, tick A: the byte goes to bits 15:8. -/
theorem test_tick_value : field (tick midWrite) (fun t => (t.vbuf, t.offset, t.evt)) =
    some (0x0A00#64, 0#11, Event.none) := by decide
/-- V37: an acceptance at offset 24 submits AD. -/
theorem test_tick_acceptance :
    field (tick { midRead 24#11 with txToggle := true }) (fun t => (t.offset, t.txPending, t.txPendingValid)) =
      some (16#11, 0xAD#8, true) := by decide
/-- V39b: an acceptance and a Word of one tick: the exit needs a later Word. -/
theorem test_tick_both :
    field (tick { midRead 0#11 with txToggle := true, rxToggle := true }) (fun t => (t.rdLast, t.phase)) =
      some (true, Phase.masterRead) := by decide
/-- V39c: a Word that arrives in the commit tick stays pending. -/
theorem test_tick_commit :
    field (tick { midWrite with offset := 0#11, evt := .writeDone }) (fun t => (t.phase, t.rxSeen, t.evt)) =
      some (Phase.readKey, false, Event.none) := by decide
/-- V32: the last byte and the deselection in one tick: no store, no event. -/
theorem test_tick_cancel :
    field (tick { midWrite with offset := 0#11, linkDesel := true }) (fun t => (t.vbuf, t.evt, t.phase, t.rxSeen)) =
      some (0#64, Event.none, Phase.readKey, true) := by decide
/-- A peripheral changes what its key shows (R196). -/
theorem test_periph :
    field (step { quiet with inputs := [.periph 0x31#8 0x15A] }) (fun t => t.periph.extPort1) = some 0x5A#8 := by decide

/-! ### The fetch -/

/-- The bits 0x82 placed in the reset state run as WR.LED_GREEN with no value. -/
theorem test_fetch_write :
    field (step (State.reset.withFetchWord 8 0x82)) (fun t => (t.key, t.length, t.phase)) =
      some (0x82#8, 0#8, Phase.readKey) := by decide
/-- The bits 82 01 01 light the LED (S1). -/
theorem test_fetch_write_value :
    field (step (quiet.withFetchWord 24 0x010182)) (fun t => (t.regs.ledGreen, t.phase)) =
      some (1#1, Phase.readKey) := by decide
/-- The bits 42 04 queue DE (S2). -/
theorem test_fetch_read :
    field (step (quiet.withFetchWord 16 0x0442)) (fun t => (t.txPending, t.phase)) =
      some (0xDE#8, Phase.masterRead) := by decide

/-! ### Witnesses: states and operands that meet the hypotheses of the obligations, clause by clause -/

theorem witness_DecodeOfEncode :
    (Instr.wrCtrl7 (List.replicate 255 0xFF#8)).wellFormed = true ∧ (Instr.rdUnknown 0x7F#8 255#8).wellFormed = true := ⟨(valueFits_replicate 255 0xFF#8).trans (by decide), by decide⟩
theorem witness_EncodeOfDecode :
    decode [0xFF#8, 1#8, 9#8, 7#8] = .ok (.wrUnknown 0xFF#8 [9#8], [7#8]) := rfl
theorem witness_EveryKeyIsAFrame :
    (255#8).toNat ≤ (List.replicate 255 (0#8 : Word)).length ∧ (0#8).toNat ≤ ([] : List Word).length := by
  rw [List.length_replicate]
  decide
theorem witness_StepRunsTheFrameThatIsDue :
    (midWrite.globalReset = false ∧ frameDue { midWrite with offset := 0#11, evt := .writeDone, inputs := [] } =
      some ({ midWrite with offset := 0#11, evt := .writeDone, inputs := [] }, [0x91#8, 2#8, 0#8, 0#8])) ∧
    decode [0x91#8, 2#8, 0#8, 0#8] = .ok (.wrMotor1 [0#8, 0#8], []) ∧
    frameDue (onWord .getReadLength 0#8) = frameDue { onWord .getReadLength 0#8 with inputs := [] } := ⟨⟨rfl, rfl⟩, rfl, rfl⟩
theorem witness_TickIsTheStepFunction :
    midWrite.globalReset = false := rfl
theorem witness_midWrite_Inv :
    Inv { midWrite with linkDesel := false } := by
  constructor <;> simp [midWrite, onWord, quiet, State.reset, platformWf, keysRise, isWriteKey]
  decide
theorem witness_StepKeepsTheInvariants :
    Inv { midWrite with linkDesel := false } ∧ ∃ t, step { midWrite with linkDesel := false } = .next t := ⟨witness_midWrite_Inv, _, rfl⟩
theorem witness_TableIsNeverMutated :
    ∃ t, step { platformState with inputs := [.periph 0xD0#8 9] } = .next t := ⟨_, rfl⟩
theorem witness_RegistersChangeOnlyAtAService :
    midWrite.evt ≠ .writeDone ∧ midWrite.globalReset = false ∧ ∃ t, step midWrite = .next t := ⟨by decide, rfl, _, rfl⟩
theorem witness_EachAgentWritesItsOwnState :
    (∃ t, step { quiet with inputs := [.select] } = .next t) ∧ (∃ t, step { quiet with inputs := [.deselect] } = .next t) ∧
    (∃ t, step { quiet with inputs := [.rise] } = .next t) ∧ (∃ t, step { quiet with inputs := [.fall true] } = .next t) ∧
    midWrite.globalReset = false ∧ (∃ t, tick midWrite = .next t) ∧
    ({ midRead 24#11 with txPendingValid := true }).txPendingValid = true := ⟨⟨_, rfl⟩, ⟨_, rfl⟩, ⟨_, rfl⟩, ⟨_, rfl⟩, rfl, ⟨_, rfl⟩, rfl⟩
theorem witness_SelectOnlySelects :
    ({ quiet with inputs := [.select] }).linkDesel = false ∧
    Inv { midWrite with linkDesel := true, inputs := [.select] } ∧ ({ midWrite with linkDesel := true }).linkDesel = true := by
  refine ⟨rfl, ?_, rfl⟩
  constructor <;> simp [midWrite, onWord, quiet, State.reset, platformWf, keysRise, isWriteKey]
  decide
theorem witness_EdgesWhileDeselectedChangeNothing :
    ({ State.reset with inputs := [.rise, .fall true] }).linkDesel = true := rfl
theorem witness_FallSamplesOneBit :
    ({ State.reset with inputs := [.fall true] }).linkDesel = true ∧
    (quiet.linkDesel = false ∧ quiet.rxCnt ≠ 7#3) ∧ ({ quiet with rxCnt := 7#3 }).rxCnt = 7#3 ∧
    ({ quiet with rxCnt := 6#3 }).rxCnt ≠ 7#3 := ⟨rfl, ⟨rfl, by decide⟩, rfl, by decide⟩
theorem witness_RiseDrivesOneBit :
    ({ State.reset with inputs := [.rise] }).linkDesel = true ∧
    (quiet.linkDesel = false ∧ quiet.txCnt = 0#3 ∧ quiet.txPendingValid = false) ∧
    ({ quiet with txPendingValid := true }).txPendingValid = true ∧
    ({ quiet with txCnt := 1#3 }).txCnt ≠ 0#3 ∧ ({ quiet with txCnt := 7#3 }).txCnt ≠ 0#3 := ⟨rfl, ⟨rfl, rfl, rfl⟩, rfl, by decide, by decide⟩
theorem witness_DeselectResetsTheLink :
    ({ quiet with inputs := [.deselect] }).inputs = [.deselect] ∧
    Inv { State.reset with draws := 1, inputs := [.deselect] } ∧ State.reset.linkDesel = true := by
  refine ⟨rfl, ?_, rfl⟩
  constructor <;> simp [State.reset, platformWf, keysRise]
theorem witness_SlotMovesOneWordEachWay :
    quiet.linkDesel = false ∧ quiet.rxCnt = 0#3 ∧ quiet.txCnt = 0#3 ∧
    (wireWords 0 [0x19#8]).length = 16 ∧ quiet.txPendingValid = false ∧
    ({ quiet with txPending := 0xF0#8, txPendingValid := true }).txPendingValid = true := ⟨rfl, rfl, rfl, by decide, rfl, rfl⟩
theorem witness_KeyWordChoosesTheFormat :
    (onWord .readKey 0x7F#8).linkDesel = false ∧ rxNew (onWord .readKey 0x7F#8) = true ∧
    (onWord .readKey 0x80#8).evt = .none ∧ (onWord .readKey 0x80#8).phase = .readKey ∧
    (onWord .readKey 0x80#8).globalReset = false := ⟨rfl, rfl, rfl, rfl, rfl⟩
theorem witness_LengthWordOfARead :
    (onWord .getReadLength 0#8).globalReset = false ∧ (onWord .getReadLength 0#8).linkDesel = false ∧
    (onWord .getReadLength 0#8).evt = .none ∧ (onWord .getReadLength 0#8).phase = .getReadLength ∧
    rxNew (onWord .getReadLength 0#8) = true ∧ (onWord .getReadLength 0#8).rxWord = 0#8 ∧
    (onWord .getReadLength 1#8).rxWord ≠ 0#8 ∧ (onWord .getReadLength 255#8).rxWord ≠ 0#8 := by
  refine ⟨rfl, rfl, rfl, rfl, rfl, rfl, ?_, ?_⟩ <;> decide
theorem witness_LengthWordOfAWrite :
    (onWord .getWriteLength 0#8).globalReset = false ∧ (onWord .getWriteLength 0#8).linkDesel = false ∧
    (onWord .getWriteLength 0#8).evt = .none ∧ (onWord .getWriteLength 0#8).phase = .getWriteLength ∧
    rxNew (onWord .getWriteLength 0#8) = true ∧ (onWord .getWriteLength 0#8).rxWord = 0#8 ∧
    (onWord .getWriteLength 1#8).rxWord ≠ 0#8 ∧ (onWord .getWriteLength 255#8).rxWord ≠ 0#8 := by
  refine ⟨rfl, rfl, rfl, rfl, rfl, rfl, ?_, ?_⟩ <;> decide
theorem witness_ValueWordIsStoredAtTheOffset :
    midWrite.globalReset = false ∧ midWrite.linkDesel = false ∧ midWrite.evt = .none ∧
    midWrite.phase = .masterWrite ∧ rxNew midWrite = true ∧ midWrite.offset ≠ 0#11 ∧
    ({ midWrite with offset := 0#11 }).offset = 0#11 ∧ ({ midWrite with offset := 64#11 }).offset ≠ 0#11 := ⟨rfl, rfl, rfl, rfl, rfl, by decide, rfl, by decide⟩
theorem witness_AcceptanceOutsideMasterReadIsOnlySeen :
    (onWord .readKey 0#8).globalReset = false ∧ (onWord .readKey 0#8).linkDesel = false ∧
    (onWord .readKey 0#8).evt = .none ∧ (onWord .readKey 0#8).phase ≠ .masterRead ∧
    rxNew { quiet with txToggle := true } = false ∧ txNew { quiet with txToggle := true } = true := ⟨rfl, rfl, rfl, by decide, rfl, rfl⟩
theorem witness_AcceptanceSubmitsTheNextByte :
    (midRead 24#11).globalReset = false ∧ (midRead 24#11).linkDesel = false ∧ (midRead 24#11).evt = .none ∧
    (midRead 24#11).phase = .masterRead ∧ (midRead 24#11).rdLast = false ∧
    txNew { midRead 24#11 with txToggle := true } = true ∧ (midRead 24#11).offset.toNat % 8 = 0 ∧
    (midRead 8#11).offset ≠ 0#11 ∧ (midRead 0#11).offset = 0#11 ∧ (midRead 72#11).offset.toNat % 8 = 0 := by
  refine ⟨rfl, rfl, rfl, rfl, rfl, rfl, ?_, ?_, rfl, ?_⟩ <;> decide
theorem witness_WordEndsAReadFrame :
    rxNew { midRead 0#11 with rxToggle := true } = true ∧ txNew { midRead 0#11 with rxToggle := true } = false ∧
    (midRead 0#11).phase = .masterRead ∧ (midRead 0#11).evt = .none ∧ (midRead 0#11).linkDesel = false ∧
    (midRead 0#11).globalReset = false ∧ ({ midRead 0#11 with rdLast := true }).rdLast = true := ⟨rfl, rfl, rfl, rfl, rfl, rfl, rfl⟩
theorem witness_QuietTickChangesNothing :
    (midRead 24#11).globalReset = false ∧ (midRead 24#11).linkDesel = false ∧ (midRead 24#11).evt = .none ∧
    rxNew (midRead 24#11) = false ∧ txNew (midRead 24#11) = false := ⟨rfl, rfl, rfl, rfl, rfl⟩
theorem witness_DeselectionCancelsInEveryState :
    ({ midWrite with linkDesel := true }).globalReset = false ∧ ({ midWrite with linkDesel := true }).linkDesel = true ∧
    ({ midWrite with linkDesel := true }).evt = .none := ⟨rfl, rfl, rfl⟩
theorem witness_EventsAreRaisedAndServicedOnce :
    (onWord .getReadLength 4#8).globalReset = false ∧
    field (tick (onWord .getReadLength 4#8)) State.evt = some .readReq ∧
    field (tick { midWrite with offset := 0#11 }) State.evt = some .writeDone ∧
    field (tick (onWord .getWriteLength 0#8)) State.evt = some .writeDone := ⟨rfl, rfl, rfl, rfl⟩
theorem witness_TwoTicksObserveEveryWord :
    ∃ t u, tick midWrite = .next t ∧ tick t = .next u := ⟨_, _, rfl, rfl⟩
theorem witness_ReadTurnaroundTakesTwoTicks :
    ({ onWord .getReadLength 8#8 with key := 0x42#8 }).globalReset = false ∧
    (onWord .getReadLength 8#8).linkDesel = false ∧ (onWord .getReadLength 8#8).evt = .none ∧
    (onWord .getReadLength 8#8).phase = .getReadLength ∧ (onWord .getReadLength 8#8).txPendingValid = false ∧
    isWriteKey 0x42#8 = false ∧ rxNew (onWord .getReadLength 8#8) = true ∧
    1 ≤ (onWord .getReadLength 1#8).rxWord.toNat ∧ (onWord .getReadLength 8#8).rxWord.toNat ≤ 8 := by
  refine ⟨rfl, rfl, rfl, rfl, rfl, ?_, rfl, ?_, ?_⟩ <;> decide
/-- For the four statements on the listed read keys. -/
theorem witness_ReadsAreServed :
    quiet.linkDesel = false ∧ (1#8 : Word) ≠ 0#8 ∧ (255#8 : Word) ≠ 0#8 := ⟨rfl, by decide, by decide⟩
theorem witness_UnknownReadsAnswerTheSentinel :
    quiet.linkDesel = false ∧ (9#8 : Word) ≠ 0#8 ∧ quiet.platformEntry 0x19#8 = none := ⟨rfl, by decide, rfl⟩
theorem witness_AddedEntriesAreRead :
    platformState.linkDesel = false ∧
    (∃ p, platformState.platformEntry 0x50#8 = some p ∧ p.direction = .writeOnly) ∧
    (∃ p, platformState.platformEntry 0x51#8 = some p ∧ p.direction ≠ .writeOnly) := ⟨rfl, ⟨_, rfl, rfl⟩, _, rfl, by decide⟩
/-- For the statements on the listed write keys, WR.RESET among them. -/
theorem witness_WritesAreServed :
    quiet.linkDesel = false ∧ conforming [0x05#8] ∧ conforming (List.replicate 8 0xFF#8) := by
  refine ⟨rfl, ?_, ?_⟩ <;> simp [conforming]
theorem witness_UnknownWritesAreDiscarded :
    quiet.linkDesel = false ∧ List.replicate 255 (0#8 : Word) ≠ [] ∧ (List.replicate 255 (0#8 : Word)).length ≤ 255 ∧
    quiet.platformEntry 0x99#8 = none := ⟨rfl, List.cons_ne_nil _ _, List.length_replicate.le, rfl⟩
theorem witness_AddedEntriesAreWritten :
    platformState.linkDesel = false ∧ conforming [0x55#8] ∧
    (∃ p, platformState.platformEntry 0xD0#8 = some p ∧ p.direction = .readOnly) ∧
    (∃ p, platformState.platformEntry 0xD1#8 = some p ∧ p.direction ≠ .readOnly) := ⟨rfl, by simp [conforming], ⟨_, rfl, rfl⟩, _, rfl, by decide⟩
theorem witness_LongWritesTakeTheLowBits :
    isWriteFrame (.wrServo1 [0x12#8, 0x34#8]) [0x12#8, 0x34#8] ∧ conforming [0x12#8, 0x34#8] ∧
    (∃ e, mapEntry 0xA1#8 = some e ∧ e.accessor ≠ .resetPulse ∧ e.width ≤ 8 * [0x12#8, 0x34#8].length) ∧
    conforming (List.replicate 8 (0#8 : Word)) ∧ 64 ≤ 8 * (List.replicate 8 (0#8 : Word)).length := by
  refine ⟨⟨rfl, rfl, rfl⟩, ?_, ⟨_, rfl, ?_, ?_⟩, ?_, ?_⟩
  · simp [conforming]
  · decide
  · decide
  · simp [conforming]
  · decide
theorem witness_ZeroLengthWriteIsANoOp :
    (onWord .getWriteLength 0#8).globalReset = false ∧ (onWord .getWriteLength 0#8).linkDesel = false ∧
    (onWord .getWriteLength 0#8).evt = .none ∧ (onWord .getWriteLength 0#8).phase = .getWriteLength ∧
    rxNew (onWord .getWriteLength 0#8) = true ∧ (onWord .getWriteLength 0#8).rxWord = 0#8 := ⟨rfl, rfl, rfl, rfl, rfl, rfl⟩
theorem witness_ZeroLengthFramesDoNothing :
    encode (.wrReset []) = [(Instr.wrReset []).key, 0#8] ∧ encode (.rdDiag6 0#8) = [(Instr.rdDiag6 0#8).key, 0#8] ∧
    quiet.linkDesel = false := ⟨rfl, rfl, rfl⟩
theorem witness_OverlongWritesFreeOneRegister :
    (Instr.wrServo1 (List.replicate 9 1#8)).wellFormed = true ∧
    encode (.wrServo1 (List.replicate 9 1#8)) = writeWords 0xA1#8 (List.replicate 9 1#8) ∧ isWriteKey 0xA1#8 = true ∧
    8 < (List.replicate 9 (1#8 : Word)).length ∧ quiet.linkDesel = false ∧
    (∃ e, mapEntry 0xA1#8 = some e ∧ e.accessor ≠ .resetPulse) := ⟨by decide, rfl, by decide, by decide, rfl, _, rfl, by decide⟩
theorem witness_DeselectionDoesNotCancelAService :
    (Instr.wrServo1 (List.replicate 8 1#8)).wellFormed = true ∧
    (∀ e, quiet.entry 0xA1#8 = some e → e.direction.writable = true →
      (encode (.wrServo1 (List.replicate 8 1#8))).length ≤ 10) ∧
    (Instr.wrUnknown 0x99#8 (List.replicate 9 1#8)).wellFormed = true ∧ quiet.entry 0x99#8 = none := by
  refine ⟨by decide, fun _ _ _ => by decide, by decide, rfl⟩
theorem witness_MeaningsFollowTheTable :
    (Instr.rdDiagConst 4#8).wellFormed = true ∧ isWriteKey (Instr.rdDiagConst 4#8).key = false ∧
    encode (.rdDiagConst 4#8) = readWords 0x42#8 4#8 ∧
    (Instr.wrLedC [1#8]).wellFormed = true ∧ isWriteKey (Instr.wrLedC [1#8]).key = true ∧
    encode (.wrLedC [1#8]) = writeWords 0x84#8 [1#8] := by decide
theorem witness_WriteThenReadUnderAnotherKey :
    platformState.linkDesel = false ∧ conforming [0x34#8] ∧ conforming (List.replicate 8 (0#8 : Word)) ∧ (1#8 : Word) ≠ 0#8 ∧
    isWriteFrame (.wrServo8 [0x34#8]) [0x34#8] ∧ (∃ e, mapEntry 0xA8#8 = some e ∧ e.accessor ≠ .resetPulse) ∧
    (∃ p, platformState.platformEntry 0x51#8 = some p ∧ p.direction ≠ .writeOnly ∧ p.mirrors = some 0xA1#8) ∧
    (∃ p, platformState.platformEntry 0x52#8 = some p ∧ p.direction ≠ .writeOnly ∧ p.mirrors = some 0xA8#8) ∧
    (∃ p, platformState.platformEntry 0x53#8 = some p ∧ p.direction ≠ .writeOnly ∧ p.mirrors = some 0xD1#8) ∧
    mapEntry 0xD1#8 = none ∧ (∃ q, platformState.platformEntry 0xD1#8 = some q ∧ q.direction ≠ .readOnly) := ⟨rfl, by simp [conforming], by simp [conforming], by decide, ⟨rfl, rfl, rfl⟩, ⟨_, rfl, by decide⟩,
    ⟨_, rfl, by decide, rfl⟩, ⟨_, rfl, by decide, rfl⟩, ⟨_, rfl, by decide, rfl⟩, rfl, _, rfl, by decide⟩
theorem witness_SentinelBytesByLength :
    quiet.entry 0x19#8 = none ∧
    (∃ e, platformState.entry 0x50#8 = some e ∧ e.direction = .writeOnly) := ⟨rfl, _, rfl, rfl⟩
theorem witness_ValueIsAssembledMostSignificantFirst :
    (List.replicate 7 (0#8 : Word)).length < 8 ∧ (List.replicate 8 (0#8 : Word)).length ≤ 8 := by decide
/-- The least and the greatest width of its third clause. -/
theorem witness_SignedPatternsReadAsTwosComplement :
    5 ≤ 5 ∧ 5 ≤ 16 ∧ 16 ≤ 16 := by decide
theorem witness_PeripheralsChangeOnlyWhatCanBeRead :
    ({ quiet with inputs := [.periph 0x31#8 9] }).inputs = [.periph 0x31#8 9] ∧
    (∃ e, (0x32#8 : Word) ≠ 0x31#8 ∧ mapEntry 0x32#8 = some e) ∧ mapEntry 0xD0#8 = none ∧
    (∃ e, platformState.entry 0x81#8 = some e ∧ e.direction = .writeOnly) ∧
    (∃ e, platformState.entry 0xD1#8 = some e ∧ e.direction = .writeOnly) ∧ platformState.entry 0x43#8 = none := ⟨rfl, ⟨_, by decide, rfl⟩, rfl, ⟨_, rfl, rfl⟩, ⟨_, rfl, rfl⟩, rfl⟩
theorem witness_PeripheralsSetTheirOwnValue :
    ({ platformState with inputs := [.periph 0x31#8 256] }).inputs = [.periph 0x31#8 256] ∧
    (∃ e, mapEntry 0x31#8 = some e ∧ e.direction = .readOnly ∧ (0x31#8 : Word) ≠ 0x42#8) ∧ mapEntry 0xD0#8 = none ∧
    (∃ p, platformState.platformEntry 0xD0#8 = some p ∧ p.direction ≠ .writeOnly ∧ p.mirrors = none) := ⟨rfl, ⟨_, rfl, rfl, by decide⟩, rfl, _, rfl, by decide, rfl⟩
theorem witness_OverlongWritesToAddedEntries :
    platformState.linkDesel = false ∧ 8 < (List.replicate 9 (1#8 : Word)).length ∧
    (List.replicate 255 (1#8 : Word)).length ≤ 255 ∧
    (∃ p, platformState.platformEntry 0xD0#8 = some p ∧ p.direction = .readOnly) ∧
    (∃ p, platformState.platformEntry 0xD1#8 = some p ∧ p.direction ≠ .readOnly) := ⟨rfl, by decide, List.length_replicate.le, ⟨_, rfl, rfl⟩, _, rfl, by decide⟩
theorem witness_LoopbackResetsTheCore :
    ({ midRead 8#11 with globalReset := true }).globalReset = true := rfl
/-- For the two statements on whole frames over the wire. -/
theorem witness_FramesOverTheWire :
    Idle { quiet with inputs := wireWords 2 (writeWords 0x82#8 [1#8]) } ∧ isWriteKey 0x82#8 = true ∧ isWriteKey 0xFF#8 = true ∧
    Idle { quiet with inputs := wireWords 2 (readWords 0x42#8 8#8 ++ List.replicate 8 0#8) } ∧ isWriteKey 0x42#8 = false ∧
    (List.replicate 8 (0#8 : Word)).length = (8#8).toNat := ⟨⟨rfl, rfl, rfl, rfl, rfl, rfl, rfl, rfl, rfl, rfl⟩, by decide, by decide,
    ⟨rfl, rfl, rfl, rfl, rfl, rfl, rfl, rfl, rfl, rfl⟩, by decide, by decide⟩

end Sys2Proof.Tests
end

section
/-! SUPPORT. The tick, said once: whatever frame is due, a tick without the core's reset is FrameDecoder's own transition
(41_frame_decoder R151), because every meaning is `MemRead` or `MemWrite` under its key (42_register_dispatch R181, R186). -/

namespace Sys2Proof.Machine

/-! ### Every meaning goes through the table -/

/-- A key outside the map reads what `MemRead` finds there (R182, R264, R266). -/
theorem unlistedValue_eq_readValue (key : Word) (s : State) (hm : mapEntry key = none) :
    unlistedValue s key = readValue s key := by
  unfold unlistedValue readValue State.entry
  rw [hm]
  cases hp : s.platformEntry key <;> simp [PlatformEntry.entry, State.getValue, hp]

/-- A value under a key outside the map does what `MemWrite` does there (R188, R265, R266). -/
theorem unlistedWrite_eq_memWrite (key : Word) (value : List Word) (hm : mapEntry key = none) (hv : value ≠ []) :
    unlistedWrite key value = memWrite key value.length (valueOf value) := by
  funext s
  unfold unlistedWrite memWrite State.entry
  rw [hm]
  cases s.platformEntry key <;> simp [PlatformEntry.entry, State.updateRegister, written, hv]

/-- A read frame, whatever its key, is served with the value that `MemRead` finds (R180, R181): by computation for a key of
the map, whose rows are the exact rows of the decoder (R99), and by the lemma above for any other. -/
theorem exec_decodeRead (key len : Word) (s : State) (hk : isWriteKey key = false) :
    exec (decodeRead key len) s = .next (readFrame key len (readValue s key) s) := by
  cases hl : listedRead key with
  | false =>
    rw [Laws.FrameEncoding.decodeRead_unlisted key len hl,
      ← unlistedValue_eq_readValue key s (mapEntry_unlistedRead key hk hl)]
    rfl
  | true =>
    unfold decodeRead
    split
    case h_27 =>
      simp only [listedRead, keyBetween, BitVec.ule, Bool.or_eq_true, Bool.and_eq_true, decide_eq_true_eq,
        beq_iff_eq, imp_false] at *
      bv_omega
    all_goals rfl

/-- A write frame, whatever its key, does to the registers what `MemWrite` does (R186), in the same two cases. -/
theorem exec_decodeWrite (key : Word) (value : List Word) (s : State) (hk : isWriteKey key = true) :
    exec (decodeWrite key value) s = .next (writeFrame key value (memWrite key value.length (valueOf value)) s) := by
  cases hl : listedWrite key with
  | false =>
    rw [Laws.FrameEncoding.decodeWrite_unlisted key value hl]
    cases value with
    | nil => rfl
    | cons b bytes =>
      rw [← unlistedWrite_eq_memWrite key _ (mapEntry_unlistedWrite key hk hl) (List.cons_ne_nil b bytes)]
      rfl
  | true =>
    unfold decodeWrite
    split
    case h_28 =>
      simp only [listedWrite, keyBetween, BitVec.ule, Bool.or_eq_true, Bool.and_eq_true, decide_eq_true_eq,
        imp_false] at *
      bv_omega
    all_goals cases value <;> rfl

/-! ### The frame that is due, as FrameDecoder's own transition -/

/-- The service tick of a raised read-request (R156, R193). -/
theorem readFrame_eq_decoderTick (s : State) (he : s.evt = .readReq) (hl : s.length ≠ 0#8)
    (ho : s.offset = offsetOf s.length) :
    readFrame s.key s.length (readValue s s.key) s = decoderTick s := by
  unfold readFrame decoderTick service decodePart
  rw [he, if_neg hl]
  simp only [memRead, putWindow_window, ← ho]

/-- The service tick of the zero length Word of a read (R102, R153). -/
theorem readFrame_zero_eq_decoderTick (s : State) (x : Value) (he : s.evt = .none) (hd : s.linkDesel = false)
    (hp : s.phase = .getReadLength) (hn : rxNew s = true) (hw : s.rxWord = 0#8) :
    readFrame s.key 0#8 x (observed s) = decoderTick s := by
  have hn : (s.rxToggle != s.rxSeen) = true := hn
  simp [readFrame, decoderTick, service, decodePart, decodeState, onReadLength, observed, rxNew, he, hd, hp, hn, hw]

/-- What a finished write frame leaves in the decoder's registers is what its reception laid out (R154, R155). -/
theorem received_of_due (s : State) (h : s.length = 0#8 ∨ s.offset = 0#11) :
    received s.key (bytesOf s.vbuf s.length.toNat) s = { s with globalReset := false } := by
  unfold received
  rw [length_bytesOf, putWindow_bytesOf, BitVec.ofNat_toNat, BitVec.setWidth_eq]
  by_cases hl : s.length = 0#8
  · simp [hl]
  · have ho : s.offset = 0#11 := h.resolve_left hl
    have hn : s.length.toNat ≠ 0 := fun e => hl (BitVec.eq_of_toNat_eq e)
    rw [if_neg hn, ← ho]

/-- The service tick of a raised write-complete (R157, R186, R193). -/
theorem writeFrame_eq_decoderTick (s : State) (he : s.evt = .writeDone) (h : s.length = 0#8 ∨ s.offset = 0#11) :
    writeFrame s.key (bytesOf s.vbuf s.length.toNat)
      (memWrite s.key s.length.toNat (window s.vbuf s.length.toNat)) s = decoderTick s := by
  unfold writeFrame decoderTick service decodePart endWrite
  rw [received_of_due s h, length_bytesOf, he]
  by_cases hl : s.length.toNat = 0
  · rw [if_pos hl]
    simp [memWrite, hl]
  · rw [if_neg hl]

/-- A tick is the core's reset where `global_reset` is fed back (R315), else the step function of R151. -/
theorem tick_eq (s : State) :
    tick s = .next (if s.globalReset && Config.resetLoopback then coreReset s else decoderTick s) := by
  unfold tick
  split
  · rfl
  · cases hf : frameDue s with
    | none => rfl
    | some due =>
      obtain ⟨u, words⟩ := due
      obtain ⟨he, hk, hl, ho, rfl, rfl⟩ | ⟨he, hk, ho, rfl, rfl⟩ | ⟨he, hd, hp, hn, hw, hk, rfl, rfl⟩ :=
        frameDue_cases s u words hf
      · simp only [decode_read _ _ _ hk, exec_decodeRead _ _ _ hk, readFrame_eq_decoderTick u he hl ho]
      · have hdec := decode_write u.key u.length _ [] hk (length_bytesOf u.vbuf u.length.toNat)
        rw [List.append_nil] at hdec
        simp only [hdec, exec_decodeWrite _ _ _ hk, length_bytesOf, valueOf_bytesOf,
          writeFrame_eq_decoderTick u he ho]
      · simp only [decode_read _ _ _ hk, exec_decodeRead _ _ _ hk,
          readFrame_zero_eq_decoderTick s _ he hd hp hn hw]

/-- A step takes the next event, of whichever agent; without one the tick comes (R8, R164). -/
theorem step_next_cases (s t : State) (h : step s = .next t) :
    ∃ rest, let u := { s with inputs := rest }
      (u.globalReset = true ∧ t = coreReset u) ∨ t = decoderTick u ∨ t = onSelect u ∨ t = onDeselect u ∨
        t = onRise u ∨ (∃ b, t = onFall b u) ∨ (∃ k v, t = supply k v u) := by
  have ofTick (u : State) (hu : tick u = .next t) : (u.globalReset = true ∧ t = coreReset u) ∨ t = decoderTick u := by
    rw [tick_eq] at hu
    injection hu with hu
    split at hu
    · next hg => exact .inl ⟨(Bool.and_eq_true_iff.mp hg).1, hu.symm⟩
    · exact .inr hu.symm
  obtain ⟨hin, ht⟩ | ⟨rest, -, ht⟩ | ⟨rest, -, ht⟩ | ⟨rest, -, ht⟩ | ⟨rest, -, ht⟩ | ⟨b, rest, -, ht⟩ |
    ⟨k, v, rest, -, ht⟩ := step_cases s t h
  · exact ⟨s.inputs, (ofTick s ht).imp_right .inl⟩
  · exact ⟨rest, (ofTick _ ht).imp_right .inl⟩
  · exact ⟨rest, .inr (.inr (.inl ht))⟩
  · exact ⟨rest, .inr (.inr (.inr (.inl ht)))⟩
  · exact ⟨rest, .inr (.inr (.inr (.inr (.inl ht))))⟩
  · exact ⟨rest, .inr (.inr (.inr (.inr (.inr (.inl ⟨b, ht⟩)))))⟩
  · exact ⟨rest, .inr (.inr (.inr (.inr (.inr (.inr ⟨k, v, ht⟩)))))⟩

end Sys2Proof.Machine
end

section
/-! SUPPORT. What each event can change of the state, and the invariants of 10_state R40 along every step. -/

namespace Sys2Proof.Machine

/-! ### The link events -/

/-- `Fall` touches the receive side alone; on a deselected link not even its counter (R123, R127). -/
theorem onFall_eq (b : Bool) (s : State) :
    ∃ (sh w : Word) (c : BitCount) (tg : Bool),
      onFall b s = { s with rxShift := sh, rxWord := w, rxCnt := c, rxToggle := tg } ∧
      (s.linkDesel = true → c = s.rxCnt) := by
  unfold onFall
  split
  · exact ⟨s.rxShift, s.rxWord, s.rxCnt, s.rxToggle, rfl, fun _ => rfl⟩
  · next hd =>
    split
    · exact ⟨_, _, _, _, rfl, fun h => absurd h hd⟩
    · exact ⟨_, s.rxWord, _, s.rxToggle, rfl, fun h => absurd h hd⟩

/-- `Rise` touches the transmit side and the draw counter alone, and queues nothing; on a deselected link not even its
counter changes (R124, R127). -/
theorem onRise_eq (s : State) :
    ∃ (o : Bool) (sh : Word) (c : BitCount) (v tg : Bool) (d : Nat),
      onRise s = { s with
        linkOut := o, txShift := sh, txCnt := c, txPendingValid := v, txToggle := tg, draws := d } ∧
      (v = true → s.txPendingValid = true) ∧ (s.linkDesel = true → c = s.txCnt) := by
  unfold onRise
  split
  · exact ⟨s.linkOut, s.txShift, s.txCnt, s.txPendingValid, s.txToggle, s.draws, rfl, id, fun _ => rfl⟩
  · next hd =>
    split
    · split
      · exact ⟨_, _, _, _, _, s.draws, rfl, by simp, fun h => absurd h hd⟩
      · exact ⟨_, _, _, s.txPendingValid, s.txToggle, _, rfl, id, fun h => absurd h hd⟩
    · exact ⟨_, _, _, s.txPendingValid, s.txToggle, s.draws, rfl, id, fun h => absurd h hd⟩

/-! ### The table and the register file -/

/-- A tick changes no column of the table (R32). -/
theorem tableColumns_decoderTick (s : State) : tableColumns (decoderTick s).platform = tableColumns s.platform := by
  obtain ⟨g, b, r, ps, d, hs, hc, -⟩ := service_eq s
  obtain ⟨w, v, p, k, len, o, b', rs, ts, e, l, d', hd, -⟩ := decodePart_eq s.evt (service s)
  rw [decoderTick, hd, hs]
  exact hc

/-- A tick with no write-complete pending changes no register of the map (R33, R68). -/
theorem decoderTick_regs (s : State) (he : s.evt ≠ .writeDone) : (decoderTick s).regs = s.regs := by
  obtain ⟨g, b, r, ps, d, hs, -, -, hr, -⟩ := service_eq s
  obtain ⟨w, v, p, k, len, o, b', rs, ts, e, l, d', hd, -⟩ := decodePart_eq s.evt (service s)
  rw [decoderTick, hd, hs]
  exact (hr he).2.1

/-! ### The invariants under the parts of a tick -/

section

variable {s : State}

/-- Only `MasterRead` knows that the last byte is going out (R40 (d)). -/
theorem Inv.notLast (h : Inv s) (hp : s.phase ≠ .masterRead) : s.rdLast = false := by
  by_contra hl
  exact hp (h.lastByte (by simpa using hl)).1

/-- An offset other than 0 has a whole byte below it (R27). -/
theorem Inv.byteBelow (h : Inv s) (ho : s.offset ≠ 0#11) : (s.offset - 8#11).toNat = s.offset.toNat - 8 ∧
    8 ≤ s.offset.toNat := by
  have ha := h.aligned
  have hn : s.offset.toNat ≠ 0 := fun e => ho (BitVec.eq_of_toNat_eq e)
  have h8 : 8 ≤ s.offset.toNat := by omega
  exact ⟨BitVec.toNat_sub_of_le h8, h8⟩

/-- The offset at the first of `w` value bytes is aligned and inside the value (R27, R40 (b), R163). -/
theorem offsetOf_bounds (w : Word) (h : w ≠ 0#8) :
    (offsetOf w).toNat % 8 = 0 ∧ (offsetOf w).toNat + 8 ≤ 8 * w.toNat := by
  have hw : w.toNat ≠ 0 := fun e => h (BitVec.eq_of_toNat_eq e)
  rw [offsetOf_toNat w h]
  omega

/-- The events still to come are no part of the invariants (log 1). -/
theorem inv_withInputs (h : Inv s) (rest : List Input) : Inv { s with inputs := rest } := { h with }

/-- `Submit` while selected (R125, R40 (e)). -/
theorem inv_submitAt (h : Inv s) (hd : s.linkDesel = false) (o : Offset) : Inv (submitAt o s) := by
  obtain ⟨w, v, d, e, -⟩ := submitAt_eq o s
  rw [e]
  exact { h with queue := fun _ => hd }

/-- Nor are the seen-copies (R29). -/
theorem inv_observed (h : Inv s) : Inv (observed s) := { h with }

/-- Cancellation forgets the frame, and with it all that the invariants ask of one (R160, R288). -/
theorem inv_cancelFrame (h : Inv s) : Inv (cancelFrame s) where
  aligned := rfl
  inValue := by simp
  readPhase := by simp
  writePhase := by simp
  readRequest := by simp
  writeComplete := by simp
  lastByte := by simp
  queue := h.queue
  boundaries := h.boundaries
  table := h.table

/-- `Service` stores patterns and bytes, and the table keeps its form (R193). -/
theorem inv_service (h : Inv s) : Inv (service s) := by
  obtain ⟨g, b, r, ps, d, hs, -, hw, -⟩ := service_eq s
  rw [hs]
  exact { h with table := hw h.table }

/-- `ReadKey` on a key Word: the next state is of the key's direction (R152). -/
theorem inv_onKeyWord (h : Inv s) (he : s.evt = .none) (hp : s.phase = .readKey) : Inv (onKeyWord s) := by
  have hl : s.rdLast = false := h.notLast (by simp [hp])
  cases hk : isWriteKey s.rxWord <;>
    exact { h with
      inValue := by simp [onKeyWord, hk]
      readPhase := by simp [onKeyWord, hk]
      writePhase := by simp [onKeyWord, hk]
      readRequest := by simp [onKeyWord, he]
      writeComplete := by simp [onKeyWord, he]
      lastByte := by simp [onKeyWord, hl] }

/-- `GetReadLength` on a length Word: the frame ends, or a read-request is raised (R153). -/
theorem inv_onReadLength (h : Inv s) (he : s.evt = .none) (hp : s.phase = .getReadLength) : Inv (onReadLength s) := by
  have hl : s.rdLast = false := h.notLast (by simp [hp])
  unfold onReadLength
  split
  · exact { h with
      inValue := by simp
      readPhase := by simp
      writePhase := by simp
      readRequest := by simp [he]
      writeComplete := by simp [he]
      lastByte := by simp [hl] }
  · next hw =>
    exact { h with
      aligned := (offsetOf_bounds _ hw).1
      inValue := by simp [hp]
      readRequest := fun _ => ⟨hp, hw, rfl⟩
      writeComplete := by simp
      lastByte := by simp [hl] }

/-- `GetWriteLength` on a length Word: the value follows, or an empty write-complete is raised (R154). -/
theorem inv_onWriteLength (h : Inv s) (he : s.evt = .none) (hp : s.phase = .getWriteLength) :
    Inv (onWriteLength s) := by
  have hl : s.rdLast = false := h.notLast (by simp [hp])
  unfold onWriteLength
  split
  · next hw =>
    exact { h with
      inValue := by simp [hp]
      readRequest := by simp
      writeComplete := fun _ => .inl ⟨hp, hw⟩ }
  · next hw =>
    exact { h with
      aligned := (offsetOf_bounds _ hw).1
      inValue := fun _ => (offsetOf_bounds _ hw).2
      readPhase := by simp
      writePhase := fun _ => h.writePhase (.inl hp)
      readRequest := by simp [he]
      writeComplete := by simp [he]
      lastByte := by simp [hl] }

/-- `MasterWrite` on a value Word: the offset goes one byte down, or the write-complete is raised (R155). -/
theorem inv_onValueWord (h : Inv s) (he : s.evt = .none) (hp : s.phase = .masterWrite) : Inv (onValueWord s) := by
  have hl : s.rdLast = false := h.notLast (by simp [hp])
  unfold onValueWord
  split
  · next ho =>
    exact { h with
      readRequest := by simp
      writeComplete := fun _ => .inr ⟨hp, ho⟩ }
  · next ho =>
    obtain ⟨hsub, hge⟩ := h.byteBelow ho
    have ha := h.aligned
    have hv := h.inValue (.inr hp)
    exact { h with
      aligned := by simp only [hsub]; omega
      inValue := fun _ => by simp only [hsub, observed_length]; omega
      readRequest := by simp [he]
      writeComplete := by simp [he]
      lastByte := by simp [hl] }

/-- `MasterRead` on an acceptance: the next byte is submitted, or the last one is going out (R158). -/
theorem inv_onAcceptance (h : Inv s) (he : s.evt = .none) (hp : s.phase = .masterRead) (hd : s.linkDesel = false) :
    Inv (onAcceptance s) := by
  unfold onAcceptance
  split
  · exact inv_observed h
  · next hl =>
    split
    · next ho => exact { h with lastByte := fun _ => ⟨hp, ho⟩ }
    · next ho =>
      obtain ⟨hsub, hge⟩ := h.byteBelow ho
      have ha := h.aligned
      have hv := h.inValue (.inl hp)
      have hnext : Inv { observed s with offset := s.offset - 8#11 } :=
        { h with
          aligned := by simp only [hsub]; omega
          inValue := fun _ => by simp only [hsub, observed_length]; omega
          readRequest := by simp [he]
          writeComplete := by simp [he]
          lastByte := by simp [hl] }
      exact inv_submitAt hnext hd _

/-- `MasterRead` (R158, R159). -/
theorem inv_onMasterRead (h : Inv s) (he : s.evt = .none) (hp : s.phase = .masterRead) (hd : s.linkDesel = false) :
    Inv (onMasterRead s) := by
  unfold onMasterRead
  split
  · exact { h with
      inValue := by simp
      readPhase := by simp
      writePhase := by simp
      readRequest := by simp [he]
      writeComplete := by simp [he]
      lastByte := by simp }
  · split
    · exact inv_onAcceptance h he hp hd
    · exact inv_observed h

/-- The rule of the current state, with no event pending and the link selected (R150 (3), R151). -/
theorem inv_decodeState (h : Inv s) (he : s.evt = .none) (hd : s.linkDesel = false) : Inv (decodeState s) := by
  unfold decodeState
  split
  · next hp => split <;> [exact inv_onKeyWord h he hp; exact inv_observed h]
  · next hp => split <;> [exact inv_onReadLength h he hp; exact inv_observed h]
  · next hp => split <;> [exact inv_onWriteLength h he hp; exact inv_observed h]
  · next hp => split <;> [exact inv_onValueWord h he hp; exact inv_observed h]
  · next hp => exact inv_onMasterRead h he hp hd

/-- The commit of a read-request: the offset stands at the first value byte, which is submitted (R156). -/
theorem inv_commitRead (h : Inv s) (he : s.evt = .readReq) (hd : s.linkDesel = false) :
    Inv (submitAt s.offset { s with evt := .none, phase := .masterRead, rdLast := false }) := by
  obtain ⟨hp, hl, ho⟩ := h.readRequest he
  have hnext : Inv { s with evt := .none, phase := .masterRead, rdLast := false } :=
    { h with
      inValue := fun _ => by simpa only [ho] using (offsetOf_bounds s.length hl).2
      readPhase := fun _ => h.readPhase (.inl hp)
      writePhase := by simp
      readRequest := by simp
      writeComplete := by simp
      lastByte := by simp }
  exact inv_submitAt hnext hd _

/-- The commit of a write-complete: the frame is over (R157). -/
theorem inv_commitWrite (h : Inv s) (he : s.evt = .writeDone) :
    Inv { s with evt := .none, phase := .readKey } := by
  have hp : s.phase ≠ .masterRead := by
    rcases h.writeComplete he with ⟨hp, -⟩ | ⟨hp, -⟩ <;> simp [hp]
  exact { h with
    inValue := by simp
    readPhase := by simp
    writePhase := by simp
    readRequest := by simp
    writeComplete := by simp
    lastByte := by simp [h.notLast hp] }

/-- Part 2 of a tick, with the event that was pending as the tick began (R150). -/
theorem inv_decodePart (h : Inv s) : Inv (decodePart s.evt s) := by
  unfold decodePart
  split
  · exact inv_cancelFrame h
  · next hd =>
    have hd : s.linkDesel = false := by simpa using hd
    split
    · next he => exact inv_commitRead h he hd
    · next he => exact inv_commitWrite h he
    · next he => exact inv_decodeState h he hd

/-- `Service` leaves the pending event to part 2 of the tick (R150). -/
theorem service_evt (s : State) : (service s).evt = s.evt := by
  obtain ⟨g, b, r, ps, d, hs, -⟩ := service_eq s
  rw [hs]

/-- A tick keeps the invariants (R150, R151). -/
theorem inv_decoderTick (h : Inv s) : Inv (decoderTick s) := by
  have hp := inv_decodePart (inv_service h)
  rwa [service_evt] at hp

/-! ### The invariants under the other events -/

/-- The core's reset goes back to R311, the table staying (R315). -/
theorem inv_coreReset (h : Inv s) : Inv (coreReset s) where
  aligned := rfl
  inValue := by simp [coreReset]
  readPhase := by simp [coreReset]
  writePhase := by simp [coreReset]
  readRequest := by simp [coreReset]
  writeComplete := by simp [coreReset]
  lastByte := by simp [coreReset]
  queue := by simp [coreReset]
  boundaries := fun _ => ⟨rfl, rfl⟩
  table := (coreReset_platform s).2 h.table

/-- `Select` meets what the invariants ask of a queued Word, and ends what they ask of a deselected link (R122). -/
theorem inv_onSelect (h : Inv s) : Inv (onSelect s) :=
  { h with
    queue := fun _ => rfl
    boundaries := by simp }

/-- `Deselect` drops the queued Word and both partial Words at once (R126). -/
theorem inv_onDeselect (h : Inv s) : Inv (onDeselect s) :=
  { h with
    queue := by simp
    boundaries := fun _ => ⟨rfl, rfl⟩ }

/-- `Rise` empties the queue or leaves it, and counts only while selected (R124, R127). -/
theorem inv_onRise (h : Inv s) : Inv (onRise s) := by
  obtain ⟨o, sh, c, v, tg, d, e, hv, hc⟩ := onRise_eq s
  rw [e]
  exact { h with
    queue := fun hq => h.queue (hv hq)
    boundaries := fun hd => ⟨(h.boundaries hd).1, (hc hd).trans (h.boundaries hd).2⟩ }

/-- `Fall` counts only while selected (R123, R127). -/
theorem inv_onFall (h : Inv s) (b : Bool) : Inv (onFall b s) := by
  obtain ⟨sh, w, c, tg, e, hc⟩ := onFall_eq b s
  rw [e]
  exact { h with boundaries := fun hd => ⟨(hc hd).trans (h.boundaries hd).1, (h.boundaries hd).2⟩ }

/-- Agent P changes patterns, and the table keeps its form (R196, log 17). -/
theorem inv_supply (h : Inv s) (key : Word) (v : Nat) : Inv (supply key v s) := by
  obtain ⟨r, ps, e, -, hw⟩ := supply_eq key v s
  rw [e]
  exact { h with table := hw h.table }

end

/-! ### The statements -/

/-- Settles O8: each of the seven things a step can be keeps the invariants. -/
theorem stepKeepsTheInvariants : Obligations.StepKeepsTheInvariants := by
  intro s t h hstep
  obtain ⟨rest, ⟨-, rfl⟩ | rfl | rfl | rfl | rfl | ⟨b, rfl⟩ | ⟨k, v, rfl⟩⟩ := step_next_cases s t hstep
  · exact inv_coreReset (inv_withInputs h rest)
  · exact inv_decoderTick (inv_withInputs h rest)
  · exact inv_onSelect (inv_withInputs h rest)
  · exact inv_onDeselect (inv_withInputs h rest)
  · exact inv_onRise (inv_withInputs h rest)
  · exact inv_onFall (inv_withInputs h rest) b
  · exact inv_supply (inv_withInputs h rest) k v

/-- Settles O11: only a tick's service, the core's reset and agent P reach the added entries, and each keeps their
columns. -/
theorem tableIsNeverMutated : Obligations.TableIsNeverMutated := by
  intro s t hstep
  obtain ⟨rest, ⟨-, rfl⟩ | rfl | rfl | rfl | rfl | ⟨b, rfl⟩ | ⟨k, v, rfl⟩⟩ := step_next_cases s t hstep
  · exact (coreReset_platform _).1
  · exact tableColumns_decoderTick _
  · rfl
  · rfl
  · obtain ⟨o, sh, c, v, tg, d, e, -⟩ := onRise_eq { s with inputs := rest }
    rw [e]
  · obtain ⟨sh, w, c, tg, e, -⟩ := onFall_eq b { s with inputs := rest }
    rw [e]
  · obtain ⟨r, ps, e, hc, -⟩ := supply_eq k v { s with inputs := rest }
    rw [e]
    exact hc

/-- Settles O12: a tick without a write-complete stores nothing, and no other agent reaches the register file; the
core's reset needs `global_reset` = 1. -/
theorem registersChangeOnlyAtAService : Obligations.RegistersChangeOnlyAtAService := by
  intro s t he hg hstep
  obtain ⟨rest, ⟨hg', -⟩ | rfl | rfl | rfl | rfl | ⟨b, rfl⟩ | ⟨k, v, rfl⟩⟩ := step_next_cases s t hstep
  · exact absurd (hg.symm.trans hg') (by decide)
  · exact decoderTick_regs _ he
  · rfl
  · rfl
  · obtain ⟨o, sh, c, v, tg, d, e, -⟩ := onRise_eq { s with inputs := rest }
    rw [e]
  · obtain ⟨sh, w, c, tg, e, -⟩ := onFall_eq b { s with inputs := rest }
    rw [e]
  · obtain ⟨r, ps, e, -⟩ := supply_eq k v { s with inputs := rest }
    rw [e]

/-- Settles O10: the reset values of R41 and R311, element by element. -/
theorem resetIsIdle : Obligations.ResetIsIdle :=
  ⟨rfl, rfl, rfl, rfl, rfl, rfl, rfl, rfl, rfl, rfl, rfl, rfl⟩

/-- Settles O9: the idle elements of `resetIsIdle` leave nothing to show but the table's form. -/
theorem resetHasTheInvariants : Obligations.ResetHasTheInvariants := by
  obtain ⟨hp, he, hl, ho, hrx, htx, hq, -⟩ := resetIsIdle
  exact {
    aligned := by simp [ho]
    inValue := by simp [hp]
    readPhase := by simp [hp]
    writePhase := by simp [hp]
    readRequest := by simp [he]
    writeComplete := by simp [he]
    lastByte := by simp [hl]
    queue := by simp [hq]
    boundaries := fun _ => ⟨hrx, htx⟩
    table := reset_platform }

end Sys2Proof.Machine
end

section
/-! SUPPORT. The frames of all instructions: Laws/PerInstr in one lemma, and what it says about an instruction
whose Words are those of a write frame (30_encoding R95, R99). -/

namespace Sys2Proof.Laws.FrameEncoding

open Sys2Proof Sys2Proof.Machine

/-- What Laws/PerInstr says of each constructor, said of every instruction. -/
theorem statement_holds : (i : Instr) → Statement i
  | .rdOdoCount1 len => rdOdoCount1 len
  | .rdOdoCount2 len => rdOdoCount2 len
  | .rdOdoCount3 len => rdOdoCount3 len
  | .rdOdoCount4 len => rdOdoCount4 len
  | .rdOdoCount5 len => rdOdoCount5 len
  | .rdOdoCount6 len => rdOdoCount6 len
  | .rdOdoSpeed1 len => rdOdoSpeed1 len
  | .rdOdoSpeed2 len => rdOdoSpeed2 len
  | .rdOdoSpeed3 len => rdOdoSpeed3 len
  | .rdOdoSpeed4 len => rdOdoSpeed4 len
  | .rdOdoSpeed5 len => rdOdoSpeed5 len
  | .rdOdoSpeed6 len => rdOdoSpeed6 len
  | .rdExtPort1 len => rdExtPort1 len
  | .rdExtPort2 len => rdExtPort2 len
  | .rdExtPort3 len => rdExtPort3 len
  | .rdExtPort4 len => rdExtPort4 len
  | .rdExtPort5 len => rdExtPort5 len
  | .rdExtPort6 len => rdExtPort6 len
  | .rdExtPort7 len => rdExtPort7 len
  | .rdDiagConst len => rdDiagConst len
  | .rdDiag1 len => rdDiag1 len
  | .rdDiag2 len => rdDiag2 len
  | .rdDiag3 len => rdDiag3 len
  | .rdDiag4 len => rdDiag4 len
  | .rdDiag5 len => rdDiag5 len
  | .rdDiag6 len => rdDiag6 len
  | .wrReset value => wrReset value
  | .wrLedGreen value => wrLedGreen value
  | .wrLedB value => wrLedB value
  | .wrLedC value => wrLedC value
  | .wrMotor1 value => wrMotor1 value
  | .wrMotor2 value => wrMotor2 value
  | .wrMotor3 value => wrMotor3 value
  | .wrMotor4 value => wrMotor4 value
  | .wrMotor5 value => wrMotor5 value
  | .wrMotor6 value => wrMotor6 value
  | .wrMotor7 value => wrMotor7 value
  | .wrMotor8 value => wrMotor8 value
  | .wrServo1 value => wrServo1 value
  | .wrServo2 value => wrServo2 value
  | .wrServo3 value => wrServo3 value
  | .wrServo4 value => wrServo4 value
  | .wrServo5 value => wrServo5 value
  | .wrServo6 value => wrServo6 value
  | .wrServo7 value => wrServo7 value
  | .wrServo8 value => wrServo8 value
  | .wrCtrl1 value => wrCtrl1 value
  | .wrCtrl2 value => wrCtrl2 value
  | .wrCtrl3 value => wrCtrl3 value
  | .wrCtrl4 value => wrCtrl4 value
  | .wrCtrl5 value => wrCtrl5 value
  | .wrCtrl6 value => wrCtrl6 value
  | .wrCtrl7 value => wrCtrl7 value
  | .rdUnknown key len => rdUnknown key len
  | .wrUnknown key value => wrUnknown key value

/-- The Words of a write frame determine its value (R95). -/
theorem writeWords_value_inj {key : Word} {value value' : List Word} (h : writeWords key value = writeWords key value') :
    value = value' := by
  injection h with _ h
  injection h

/-- A write frame is what the decoder makes of its key and value (R95, R99). -/
theorem decodeWrite_of_isWriteFrame {i : Instr} {value : List Word} (h : isWriteFrame i value) :
    decodeWrite i.key value = i := by
  obtain ⟨hw, hk, he⟩ := h
  obtain ⟨hk', -⟩ | ⟨-, value', -, he', hd⟩ := statement_holds i hw
  · exact absurd (hk.symm.trans hk') (by decide)
  · rwa [writeWords_value_inj (he.symm.trans he')]

end Sys2Proof.Laws.FrameEncoding
end

section
/-! SUPPORT. The register memory: what the map and the added entries hold under each key, what a write of 1 to 8 bytes
and agent P change there, and what a read frame shows of it (20_memory R72, R75, 42_register_dispatch R181, R186,
R196). -/

namespace Sys2Proof.Machine

/-! ### The rows of the map -/

/-- Bit 7 of a listed key says whether its row can be written (R92, R211 to R263). -/
theorem writable_of_mapEntry (key : Word) (e : Entry) (h : mapEntry key = some e) :
    e.direction.writable = isWriteKey key := by
  have rows : ∀ k : Word, (mapEntry k).all (fun e => e.direction.writable == isWriteKey k) = true := by decide
  simpa [h] using rows key

/-- The lookup of a listed key finds its row of the map (R180). -/
theorem entry_of_mapEntry (s : State) (key : Word) (e : Entry) (h : mapEntry key = some e) : s.entry key = some e := by
  simp only [State.entry, h]

/-- The lookup of an unlisted key finds what the platform added there (R180, R266). -/
theorem entry_of_platformEntry (s : State) (key : Word) (p : PlatformEntry) (h : mapEntry key = none)
    (hp : s.platformEntry key = some p) : s.entry key = some p.entry := by
  simp only [State.entry, h, hp, Option.map_some]

/-- `get` of a listed key is the pattern behind its accessor (R181). -/
theorem getValue_of_mapEntry (s : State) (key : Word) (e : Entry) (h : mapEntry key = some e) :
    s.getValue key e = s.accessorValue e.accessor := by
  unfold State.getValue
  split
  · next ha => exact absurd ha (mapEntry_not_platform key e h)
  · rfl

/-- The stored pattern of an added entry is its own (R266). -/
theorem storedValue_of_platformEntry (s : State) (key : Word) (p : PlatformEntry) (h : mapEntry key = none)
    (hp : s.platformEntry key = some p) : s.storedValue key = BitVec.ofNat 64 p.pattern := by
  simp only [State.storedValue, h, hp]

/-- The stored pattern of a listed key is that behind its accessor (R33). -/
theorem storedValue_of_mapEntry (s : State) (key : Word) (e : Entry) (h : mapEntry key = some e) :
    s.storedValue key = s.accessorValue e.accessor := by
  simp only [State.storedValue, h]

/-! ### The value behind an accessor -/

/-- The values behind the accessors lie in the register file and the peripherals alone (R33, R196). -/
theorem accessorValue_congr {s t : State} (hr : t.regs = s.regs) (hp : t.periph = s.periph) (a : Accessor) :
    t.accessorValue a = s.accessorValue a := by
  cases a <;> simp only [State.accessorValue, hr, hp]

/-- Agent P's change behind one accessor is not seen behind another (R75). -/
theorem accessorValue_periphUpdate_ne (s : State) (f : (w : Nat) → BitVec w → BitVec w) (a b : Accessor)
    (h : a ≠ b) :
    State.accessorValue { s with periph := s.periph.update f a } b = s.accessorValue b := by
  cases b <;>
    simp only [State.accessorValue, h, if_false,
      Peripherals.update_odoCount1, Peripherals.update_odoCount2, Peripherals.update_odoCount3,
      Peripherals.update_odoCount4, Peripherals.update_odoCount5, Peripherals.update_odoCount6,
      Peripherals.update_odoSpeed1, Peripherals.update_odoSpeed2, Peripherals.update_odoSpeed3,
      Peripherals.update_odoSpeed4, Peripherals.update_odoSpeed5, Peripherals.update_odoSpeed6,
      Peripherals.update_extPort1, Peripherals.update_extPort2, Peripherals.update_extPort3,
      Peripherals.update_extPort4, Peripherals.update_extPort5, Peripherals.update_extPort6,
      Peripherals.update_extPort7, Peripherals.update_diag1, Peripherals.update_diag2, Peripherals.update_diag3,
      Peripherals.update_diag4, Peripherals.update_diag5, Peripherals.update_diag6]

/-- The register behind a listed write key but the reset key has its row's width, and an update of the register file at
its accessor gives it the new pattern (R33, R187). The rows of the map are of three kinds: a read key's, the reset key's
and a register's. -/
theorem accessorValue_regsUpdate (s : State) (key : Word) (e : Entry) (h : mapEntry key = some e)
    (hw : e.direction.writable = true) (hr : e.accessor ≠ .resetPulse) :
    ∃ old : BitVec e.width, s.accessorValue e.accessor = old.setWidth 64 ∧
      ∀ (t : State) f, t.regs = s.regs.update f e.accessor →
        t.accessorValue e.accessor = (f e.width old).setWidth 64 := by
  unfold mapEntry at h
  split at h
  case h_54 => cases h
  all_goals
    injection h with h
    subst h
    first
      | exact absurd hw Bool.false_ne_true
      | exact absurd rfl hr
      | exact ⟨_, rfl, fun t f ht => by simp only [State.accessorValue, writeEntry, ht, Registers.update]⟩

/-- `get` of a listed key reads the register file and the peripherals alone (R33, R196). -/
theorem getValue_congr {s t : State} {key : Word} {e : Entry} (h : mapEntry key = some e) (hr : t.regs = s.regs)
    (hp : t.periph = s.periph) : t.getValue key e = s.getValue key e := by
  rw [getValue_of_mapEntry t key e h, getValue_of_mapEntry s key e h, accessorValue_congr hr hp]

/-- The stored pattern of an added entry after a change of its pattern (R266). -/
theorem storedValue_updatePlatform {s t : State} {key : Word} {q : PlatformEntry} (h : mapEntry key = none)
    (hq : s.platformEntry key = some q) (f : (w : Nat) → BitVec w → BitVec w)
    (ht : t.platform = updatePlatform key f s.platform) :
    t.storedValue key = (f q.width (BitVec.ofNat q.width q.pattern)).setWidth 64 := by
  have hnew : t.platformEntry key = some (q.update f) := by
    have hfind := find_updatePlatform key key f s.platform
    rw [if_pos rfl, ← State.platformEntry, hq] at hfind
    rw [State.platformEntry, ht, hfind, Option.map_some]
  rw [storedValue_of_platformEntry t key _ h hnew, PlatformEntry.update_pattern, BitVec.ofNat_toNat]

/-! ### What agent P reaches -/

/-- A change by agent P does nothing, or changes the value behind a listed readable key, or the pattern of an added
readable entry (R75, R196). -/
theorem supply_cases (key : Word) (v : Nat) (s : State) :
    supply key v s = s ∨
    (∃ e, mapEntry key = some e ∧ e.direction.readable = true ∧
      supply key v s = { s with periph := s.periph.update (fun w _ => BitVec.ofNat w v) e.accessor }) ∨
    (∃ p, mapEntry key = none ∧ s.platformEntry key = some p ∧ p.direction.readable = true ∧
      supply key v s = { s with platform := updatePlatform key (fun w _ => BitVec.ofNat w v) s.platform }) := by
  cases hm : mapEntry key with
  | some e =>
    rw [supply_listed key v s e hm]
    cases hr : e.direction.readable with
    | true => exact .inr (.inl ⟨e, rfl, hr, rfl⟩)
    | false => exact .inl rfl
  | none =>
    cases hp : s.platformEntry key with
    | some p =>
      rw [supply_added key v s p hm hp]
      cases hr : p.direction.readable with
      | true => exact .inr (.inr ⟨p, rfl, rfl, hr, rfl⟩)
      | false => exact .inl rfl
    | none =>
      have he : s.entry key = none := by simp only [State.entry, hm, hp, Option.map_none]
      exact .inl (by simp only [supply, he])

/-- A write-only entry and a missing one have nothing that agent P could change (R75). -/
theorem not_readable_of_entry {s : State} {key : Word} {e : Entry} (he : s.entry key = some e)
    (h : (∃ e', s.entry key = some e' ∧ e'.direction = .writeOnly) ∨ s.entry key = none) :
    e.direction.readable = false := by
  obtain ⟨e', he', hd⟩ | hn := h
  · obtain rfl : e = e' := Option.some.inj (he.symm.trans he')
    rw [hd]
    rfl
  · exact absurd (he.symm.trans hn) (Option.some_ne_none e)

/-! ### The state in which a write frame is serviced -/

section

variable (key : Word) (value : List Word) (s : State)

@[simp] theorem received_linkDesel : (received key value s).linkDesel = s.linkDesel := by
  unfold received
  split <;> rfl
@[simp] theorem received_regs : (received key value s).regs = s.regs := by
  unfold received
  split <;> rfl
@[simp] theorem received_periph : (received key value s).periph = s.periph := by
  unfold received
  split <;> rfl
@[simp] theorem received_platform : (received key value s).platform = s.platform := by
  unfold received
  split <;> rfl

end

/-- The meaning of a write frame is `MemWrite` of its key through the table (R180, R186). -/
theorem exec_of_isWriteFrame {i : Instr} {value : List Word} (h : isWriteFrame i value) (s : State) :
    exec i s = .next (writeFrame i.key value (memWrite i.key value.length (valueOf value)) s) := by
  have hk : isWriteKey i.key = true := h.2.1
  rw [← exec_decodeWrite i.key value s hk, Laws.FrameEncoding.decodeWrite_of_isWriteFrame h]

/-- The default write row takes any unlisted key to `MemWrite` (R186, R265, R266). -/
theorem exec_wrUnknown (key : Word) (value : List Word) (s : State) (hm : mapEntry key = none) (hv : value ≠ []) :
    exec (.wrUnknown key value) s = .next (writeFrame key value (memWrite key value.length (valueOf value)) s) := by
  rw [← unlistedWrite_eq_memWrite key value hm hv]
  rfl

/-! ### What a write stores -/

/-- What a write of `L` bytes of value `v` makes of the pattern of any register (R186, R189). -/
abbrev merging (L : Nat) (v : Value) : (w : Nat) → BitVec w → BitVec w := fun _ old => mergePattern old L v

/-- `R[key] <- ...` of a value that the buffer holds uses no draw (R103, R187, R195). -/
theorem writtenPattern_conforming {w : Nat} (s : State) (key : Word) (L : Nat) (v : Value) (old : BitVec w)
    (hL : L ≤ 8) : writtenPattern s key L v old = mergePattern old L v :=
  if_neg (Nat.not_lt.mpr hL)

/-- Nor does the write itself count one (R195). -/
theorem spendOverlong_conforming (L : Nat) (s : State) (hL : L ≤ 8) : spendOverlong L s = s := by
  have hcap : ¬ Config.valueCap < L := Nat.not_lt.mpr hL
  simp only [spendOverlong, hcap, if_false]

/-- An update under a listed key stays in the register file (R33, R187). -/
theorem updateRegister_listed (s : State) (key : Word) (e : Entry) (hm : mapEntry key = some e)
    (f : (w : Nat) → BitVec w → BitVec w) :
    s.updateRegister key e f = { s with regs := s.regs.update f e.accessor } := by
  unfold State.updateRegister
  split
  · next ha => exact absurd ha (mapEntry_not_platform key e hm)
  · rfl

/-- A write of 1 to 8 bytes to a listed key but the reset key merges the value into its register alone (R186, R189). -/
theorem memWrite_listed (key : Word) (L : Nat) (v : Value) (s : State) (e : Entry) (hm : mapEntry key = some e)
    (hw : e.direction.writable = true) (hr : e.accessor ≠ .resetPulse) (h1 : 1 ≤ L) (h8 : L ≤ 8) :
    memWrite key L v s = { s with regs := s.regs.update (merging L v) e.accessor } := by
  unfold memWrite
  rw [if_neg (by omega), entry_of_mapEntry s key e hm]
  simp only [hw, if_true, updateRegister_listed _ _ _ hm, writtenPattern_conforming _ _ _ _ _ h8,
    spendOverlong_conforming _ _ h8]

/-- A write of 1 to 8 bytes to an added writable entry merges the value into its pattern alone (R186, R266). -/
theorem memWrite_added (key : Word) (L : Nat) (v : Value) (s : State) (q : PlatformEntry) (hm : mapEntry key = none)
    (hq : s.platformEntry key = some q) (hw : q.direction.writable = true) (h1 : 1 ≤ L) (h8 : L ≤ 8) :
    memWrite key L v s = { s with platform := updatePlatform key (merging L v) s.platform } := by
  have hL : L ≠ 0 := by omega
  simp only [memWrite, hL, if_false, entry_of_platformEntry s key q hm hq, PlatformEntry.entry, hw, if_true,
    State.updateRegister, writtenPattern_conforming _ _ _ _ _ h8, spendOverlong_conforming _ _ h8]

/-- The state after a write frame of 1 to 8 bytes to a listed key but the reset key (R186, R193). -/
theorem exec_write_listed {i : Instr} {value : List Word} {e : Entry} (s : State) (hd : s.linkDesel = false)
    (hv : conforming value) (hi : isWriteFrame i value) (hm : mapEntry i.key = some e)
    (hr : e.accessor ≠ .resetPulse) :
    exec i s = .next { received i.key value s with
      regs := s.regs.update (merging value.length (valueOf value)) e.accessor
      evt := .none, phase := .readKey } := by
  obtain ⟨h1, h8⟩ := hv
  have hw : e.direction.writable = true := (writable_of_mapEntry _ _ hm).trans hi.2.1
  have hmem := memWrite_listed i.key value.length (valueOf value) (received i.key value s) e hm hw hr h1 h8
  rw [exec_of_isWriteFrame hi, writeFrame_selected _ _ _ _ (by simp [hmem, hd]) (List.ne_nil_of_length_pos h1), hmem,
    received_regs]

/-- The state after a write frame of 1 to 8 bytes to an added writable entry (R186, R193, R266). -/
theorem exec_write_added {key : Word} {value : List Word} {q : PlatformEntry} (s : State) (hd : s.linkDesel = false)
    (hv : conforming value) (hm : mapEntry key = none) (hq : s.platformEntry key = some q)
    (hw : q.direction.writable = true) :
    exec (.wrUnknown key value) s = .next { received key value s with
      platform := updatePlatform key (merging value.length (valueOf value)) s.platform
      evt := .none, phase := .readKey } := by
  obtain ⟨h1, h8⟩ := hv
  have hne : value ≠ [] := List.ne_nil_of_length_pos h1
  have hq' : (received key value s).platformEntry key = some q := by
    rw [State.platformEntry, received_platform]
    exact hq
  have hmem := memWrite_added key value.length (valueOf value) (received key value s) q hm hq' hw h1 h8
  rw [exec_wrUnknown _ _ _ hm hne, writeFrame_selected _ _ _ _ (by simp [hmem, hd]) hne, hmem, received_platform]

/-! ### What a read frame shows -/

/-- The service tick of a selected read frame of 1 or more bytes, element by element: the first value byte is queued, from
the buffer where it reaches (R103, R156, R158). -/
theorem readFrame_selected (key len : Word) (x : Value) (s : State) (hd : s.linkDesel = false) (hl : len ≠ 0#8) :
    ∃ (w : Word) (d : Nat),
      readFrame key len x s = { s with
        key := key, length := len, offset := offsetOf len, vbuf := putWindow s.vbuf len.toNat x
        phase := .masterRead, evt := .none, rdLast := false, txPending := w, txPendingValid := true
        globalReset := false, draws := d } ∧
      (len.toNat ≤ 8 → d = s.draws ∧ w = byteAt (putWindow s.vbuf len.toNat x) (8 * (len.toNat - 1))) := by
  have ho : (offsetOf len).toNat = 8 * (len.toNat - 1) := offsetOf_toNat len hl
  obtain ⟨w, v, d, hsub, hvalid, -, hbyte⟩ := submitAt_eq (offsetOf len)
    { s with
      key := key, length := len, globalReset := false, vbuf := putWindow s.vbuf len.toNat x
      offset := offsetOf len, evt := .none, phase := .masterRead, rdLast := false }
  obtain rfl : v = true := hvalid hd
  refine ⟨w, d, ?_, fun h8 => ?_⟩
  · unfold readFrame
    rw [if_neg hl, if_neg (by simp [hd]), hsub]
  · obtain ⟨hdraws, hw⟩ := hbyte (by omega)
    exact ⟨hdraws, ho ▸ hw hd⟩

/-- A frame that is executed as the selected read frame `key, len` of `x` is served with `x` (R156, R158, R193). -/
theorem readServed_of_exec {i : Instr} {key len : Word} {x : Value} {s : State}
    (h : exec i s = .next (readFrame key len x s)) (hd : s.linkDesel = false) (hl : len ≠ 0#8) :
    readServed i key len x s := by
  obtain ⟨w, d, hframe, hbyte⟩ := readFrame_selected key len x s hd hl
  rw [hframe] at h
  refine ⟨_, h, fun j hj => getLsbD_putWindow s.vbuf x len.toNat j hj, offsetOf_toNat len hl, fun h8 => ?_, rfl⟩
  obtain ⟨hdraws, rfl⟩ := hbyte h8
  have hn : len.toNat ≠ 0 := fun e => hl (BitVec.eq_of_toNat_eq e)
  refine ⟨hdraws, fun b hb => ?_⟩
  rw [getLsbD_byteAt _ _ _ hb, getLsbD_putWindow _ _ _ _ (by omega), if_pos (by omega)]

/-- An entry that is not write-only can be read, one that is not read-only can be written (R180). -/
theorem readable_of_ne {d : Direction} (h : d ≠ .writeOnly) : d.readable = true := by
  cases d with
  | writeOnly => exact absurd rfl h
  | readOnly | readWrite => rfl

theorem writable_of_ne {d : Direction} (h : d ≠ .readOnly) : d.writable = true := by
  cases d with
  | readOnly => exact absurd rfl h
  | writeOnly | readWrite => rfl

/-- What an entry of `width` bits shows of the register pattern that it mirrors (R196, R266). -/
def mirrored (width : Nat) (pattern : Value) : Value := (BitVec.setWidth width pattern).setWidth 64

/-- A read of an added readable entry that mirrors a key shows that key's register, cut to the entry's width (R72, R196,
R266). -/
theorem readServed_mirror {s : State} {key target len : Word} {p : PlatformEntry} {y : Value}
    (hd : s.linkDesel = false) (hl : len ≠ 0#8) (hp : s.platformEntry key = some p) (hr : p.direction ≠ .writeOnly)
    (hmir : p.mirrors = some target) (hy : s.storedValue target = y) :
    readServed (.rdUnknown key len) key len (mirrored p.width y) s := by
  have hval : unlistedValue s key = mirrored p.width y := by
    simp only [unlistedValue, hp, readable_of_ne hr, if_true, State.platformGet, hmir, hy, mirrored]
  exact readServed_of_exec (congrArg (fun x => Host.Outcome.next (readFrame key len x s)) hval) hd hl

/-- A merged pattern seen through a window and an entry's width, bit by bit (R186, R189). -/
theorem getLsbD_mirrored {w : Nat} (old : BitVec w) (L : Nat) (v : Value) (width j : Nat) (hj : j < 64) :
    (mirrored width ((mergePattern old L v).setWidth 64)).getLsbD j =
      (decide (j < w ∧ j < width) && if j < 8 * L then v.getLsbD j else old.getLsbD j) := by
  simp only [mirrored, BitVec.getLsbD_setWidth, hj, decide_true, Bool.true_and]
  by_cases hw : j < w
  · rw [getLsbD_mergePattern old L v j hw]
    simp [hw]
  · simp [BitVec.getLsbD_of_ge _ j (Nat.le_of_not_lt hw), hw]

/-! ### The statements -/

/-- Settles O51: the write leaves the merged pattern in the mirrored register and the mirroring entry as it was, so the
read shows that pattern. -/
theorem writeThenReadUnderAnotherKey : Obligations.WriteThenReadUnderAnotherKey := by
  intro s value key len p hd hv hl hp hread
  have hd' (k : Word) : (received k value s).linkDesel = false := (received_linkDesel k value s).trans hd
  refine ⟨fun i e hi hm hr hmir => ?listed, fun target q hne hm hq hwrite hmir => ?added⟩
  case listed =>
    have hw : e.direction.writable = true := (writable_of_mapEntry _ _ hm).trans hi.2.1
    obtain ⟨old, hold, hnew⟩ := accessorValue_regsUpdate s i.key e hm hw hr
    refine ⟨mirrored p.width ((mergePattern old value.length (valueOf value)).setWidth 64), fun j hj => ?bits, _,
      exec_write_listed s hd hv hi hm hr, readServed_mirror (hd' _) hl ?entry hread hmir ?stored⟩
    case bits =>
      simp only [getLsbD_mirrored _ _ _ _ _ hj, hold, BitVec.getLsbD_setWidth, hj, decide_true, Bool.true_and]
    case entry => rwa [State.platformEntry, received_platform]
    case stored =>
      exact (storedValue_of_mapEntry _ _ e hm).trans (hnew _ (merging value.length (valueOf value)) rfl)
  case added =>
    refine ⟨mirrored p.width ((mergePattern (BitVec.ofNat q.width q.pattern) value.length (valueOf value)).setWidth 64),
      fun j hj => ?bits, _, exec_write_added s hd hv hm hq (writable_of_ne hwrite),
      readServed_mirror (hd' _) hl ?entry hread hmir ?stored⟩
    case bits =>
      rw [getLsbD_mirrored _ _ _ _ _ hj, BitVec.getLsbD_ofNat]
      by_cases hw : j < q.width <;> simp [hw]
    case entry => exact (platformEntry_update s target key _).trans ((if_neg hne.symm).trans hp)
    case stored => exact storedValue_updatePlatform hm hq (merging value.length (valueOf value)) rfl

/-- Settles O55: nothing changes, or one peripheral does, whose accessor is that of no other listed key, or the pattern of
one added entry. -/
theorem peripheralsChangeOnlyWhatCanBeRead : Obligations.PeripheralsChangeOnlyWhatCanBeRead := by
  intro s key v rest hin
  refine ⟨supply key v { s with inputs := rest }, by simp only [step, hin], ?_⟩
  obtain h | ⟨e, hm, hr, h⟩ | ⟨p, hm, hp, hr, h⟩ := supply_cases key v { s with inputs := rest } <;> rw [h]
  · exact ⟨rfl, fun _ _ _ ho => getValue_congr ho rfl rfl, fun _ _ => rfl, fun _ => rfl, fun _ => rfl,
      fun _ => ⟨rfl, rfl⟩⟩
  · refine ⟨rfl, fun other e' hne ho => ?otherKey, fun _ _ => rfl, fun _ => rfl,
      fun hn => absurd (hm.symm.trans hn) (Option.some_ne_none e), fun hn => ⟨?unchanged, rfl⟩⟩
    case otherKey =>
      have ha : e.accessor ≠ e'.accessor := fun ha => hne (mapEntry_accessor_inj key other e e' hm ho ha).symm
      rw [getValue_of_mapEntry _ _ _ ho, accessorValue_periphUpdate_ne _ _ _ _ ha, ← getValue_of_mapEntry _ _ _ ho]
      exact getValue_congr ho rfl rfl
    case unchanged =>
      obtain rfl | hn := hn
      · obtain rfl : readEntry 32 .unsigned .diagConst = e := Option.some.inj hm
        rfl
      · exact absurd (hr.symm.trans (not_readable_of_entry (entry_of_mapEntry s key e hm) hn)) (by decide)
  · refine ⟨rfl, fun _ _ _ ho => getValue_congr ho rfl rfl,
      fun other hne => (platformEntry_update _ key other _).trans (if_neg hne), fun hn => absurd hm hn, fun _ => rfl,
      fun hn => ⟨rfl, ?unchanged⟩⟩
    case unchanged =>
      obtain rfl | hn := hn
      · exact absurd hm (by decide)
      · have he : s.entry key = some p.entry := entry_of_platformEntry s key p hm hp
        exact absurd (hr.symm.trans (not_readable_of_entry he hn)) (by decide)

end Sys2Proof.Machine
end

section
/-! SUPPORT. The frame format: what the decoder answers, said both ways, and the round trip between frames and Words
(30_encoding R91 to R101). -/

namespace Sys2Proof.Laws.FrameEncoding

open Sys2Proof Sys2Proof.Machine

/-! ### What the decoder answers -/

/-- The Words of a read frame decode to the row of its key, whatever follows (R94, R98). -/
theorem decode_readWords (key len : Word) (rest : List Word) (hk : isWriteKey key = false) :
    decode (readWords key len ++ rest) = .ok (decodeRead key len, rest) :=
  decode_read key len rest hk

/-- The Words of a write frame whose value fits the length byte decode to the row of its key, whatever follows (R93, R95,
R98). -/
theorem decode_writeWords (key : Word) (value rest : List Word) (hk : isWriteKey key = true)
    (hv : value.length ≤ 255) :
    decode (writeWords key value ++ rest) = .ok (decodeWrite key value, rest) :=
  decode_write key _ value rest hk (Nat.mod_eq_of_lt (Nat.lt_succ_of_le hv)).symm

/-- Whatever the decoder reads is a read frame under a key with bit 7 = 0 or a write frame of at most 255 value bytes under
a key with bit 7 = 1, at the head of the Words (R91 to R95, R98). -/
theorem decode_ok_cases {words rest : List Word} {i : Instr} (h : decode words = .ok (i, rest)) :
    (∃ key len, isWriteKey key = false ∧ words = readWords key len ++ rest ∧ i = decodeRead key len) ∨
    (∃ key value, isWriteKey key = true ∧ value.length ≤ 255 ∧ words = writeWords key value ++ rest ∧
      i = decodeWrite key value) := by
  match words with
  | [] | [_] => cases h
  | key :: len :: more =>
    cases hk : isWriteKey key with
    | false =>
      cases (decode_read key len more hk).symm.trans h
      exact .inl ⟨key, len, hk, rfl, rfl⟩
    | true =>
      have hmsb : key.msb = true := hk
      simp only [decode, hmsb, if_true] at h
      split at h
      · cases h
      · next hshort =>
        cases h
        have hlen : (more.take len.toNat).length = len.toNat :=
          Nat.le_antisymm (List.length_take_le _ _) (Nat.le_of_not_lt hshort)
        refine .inr ⟨key, more.take len.toNat, hk, ?_, ?_, rfl⟩
        · exact hlen.trans_le (Nat.le_of_lt_succ len.isLt)
        · simp [writeWords, hlen]

/-! ### The rows of the opcode map -/

/-- The row of a read key encodes to the Words it stands for (R94, R99). -/
theorem encode_decodeRead (key len : Word) : encode (decodeRead key len) = readWords key len := by
  unfold decodeRead
  split <;> rfl

/-- The row of a write key encodes to the Words it stands for (R95, R99). -/
theorem encode_decodeWrite (key : Word) (value : List Word) :
    encode (decodeWrite key value) = writeWords key value := by
  unfold decodeWrite
  split <;> rfl

/-- The row of a read key has that key (R99). -/
@[simp] theorem key_decodeRead (key len : Word) : (decodeRead key len).key = key := by
  unfold decodeRead
  split <;> rfl

/-- The row of a write key has that key (R99). -/
@[simp] theorem key_decodeWrite (key : Word) (value : List Word) : (decodeWrite key value).key = key := by
  unfold decodeWrite
  split <;> rfl

/-- The default read row stands under an unlisted key, so every read row is a frame that exists on the wire (R99, R100,
R264). -/
theorem wellFormed_decodeRead (key len : Word) (hk : isWriteKey key = false) :
    (decodeRead key len).wellFormed = true := by
  cases hl : listedRead key with
  | false =>
    have hmsb : key.msb = false := hk
    simp [decodeRead_unlisted key len hl, Instr.wellFormed, hmsb, hl]
  | true =>
    unfold decodeRead
    split
    case h_27 =>
      simp only [listedRead, keyBetween, BitVec.ule, Bool.or_eq_true, Bool.and_eq_true, decide_eq_true_eq,
        beq_iff_eq, imp_false] at *
      bv_omega
    all_goals rfl

/-- The same of the write rows, for a value that fits the length byte (R93, R265). -/
theorem wellFormed_decodeWrite (key : Word) (value : List Word) (hk : isWriteKey key = true)
    (hv : value.length ≤ 255) : (decodeWrite key value).wellFormed = true := by
  have hfits : valueFits value = true := decide_eq_true hv
  cases hl : listedWrite key with
  | false =>
    have hmsb : key.msb = true := hk
    simp [decodeWrite_unlisted key value hl, Instr.wellFormed, hmsb, hl, hfits]
  | true =>
    unfold decodeWrite
    split
    case h_28 =>
      simp only [listedWrite, keyBetween, BitVec.ule, Bool.or_eq_true, Bool.and_eq_true, decide_eq_true_eq,
        imp_false] at *
      bv_omega
    all_goals exact hfits

/-! ### The statements -/

/-- Settles O1: the key of a well-formed frame alone selects its row. -/
theorem decodeOfEncode : Obligations.DecodeOfEncode := by
  intro i rest hw
  obtain ⟨hk, len, he, hi⟩ | ⟨hk, value, hv, he, hi⟩ := statement_holds i hw
  · rw [he, decode_readWords _ _ _ hk, hi]
  · rw [he, decode_writeWords _ _ _ hk hv, hi]

/-- Settles O2, in the two ways in which the decoder reads a frame. -/
theorem encodeOfDecode : Obligations.EncodeOfDecode := by
  intro i words rest h
  obtain ⟨key, len, hk, rfl, rfl⟩ | ⟨key, value, hk, hv, rfl, rfl⟩ := decode_ok_cases h
  · exact ⟨wellFormed_decodeRead key len hk, by rw [encode_decodeRead]⟩
  · exact ⟨wellFormed_decodeWrite key value hk hv, by rw [encode_decodeWrite]⟩

/-- Settles O3: a write takes its value from the head of the Words, a read takes none. -/
theorem everyKeyIsAFrame : Obligations.EveryKeyIsAFrame := by
  intro key len rest hl
  cases hk : isWriteKey key with
  | false => exact ⟨_, _, decode_read key len rest hk, key_decodeRead key len⟩
  | true =>
    have h := decode_write key len (rest.take len.toNat) (rest.drop len.toNat) hk (List.length_take_of_le hl)
    rw [List.cons_append, List.cons_append, List.take_append_drop] at h
    exact ⟨_, _, h, key_decodeWrite key _⟩

/-- Settles O4: a read and a write of a listed key, a read and a write of an unlisted one. -/
theorem sampleWordsDecode : Obligations.SampleWordsDecode :=
  ⟨decode_readWords 0x42#8 4#8 [] (by decide), decode_writeWords 0x91#8 [0#8, 10#8] [] (by decide) (by decide),
    decode_readWords 0x19#8 2#8 [] (by decide), decode_writeWords 0x99#8 [0x55#8] [] (by decide) (by decide)⟩

end Sys2Proof.Laws.FrameEncoding
end

section
/-! SUPPORT. The order of a value's bytes (20_memory R62, 30_encoding R96, R97), and the frames that have no value byte
(30_encoding R102, 42_register_dispatch R191). -/

namespace Sys2Proof.Machine

/-! ### The bytes of a value -/

/-- A value of few bytes is zero above them (R62). -/
theorem getLsbD_valueOf_of_ge (bytes : List Word) (j : Nat) (h : 8 * bytes.length ≤ j) :
    (valueOf bytes).getLsbD j = false := by
  induction bytes using List.reverseRecOn generalizing j with
  | nil => simp [valueOf]
  | append_singleton bytes b ih =>
    rw [List.length_append, List.length_singleton] at h
    simp [valueOf_snoc, ih (j - 8) (by omega), BitVec.getLsbD_of_ge b j (by omega)]

/-- The byte received last is the least significant byte of the value (R62, R96). -/
theorem getLsbD_valueOf_snoc (bytes : List Word) (w : Word) (b : Nat) (hb : b < 8) :
    (valueOf (bytes ++ [w])).getLsbD b = w.getLsbD b := by
  have hb64 : b < 64 := by omega
  simp [valueOf_snoc, hb, hb64]

/-- The byte with `after` behind it stands `8 * after.length` bits up, while that is inside the buffer (R62, R96). -/
theorem byteAt_valueOf (before after : List Word) (w : Word) (h : after.length < 8) :
    byteAt (valueOf (before ++ w :: after)) (8 * after.length) = w := by
  apply BitVec.eq_of_getLsbD_eq
  intro b hb
  have hin : 8 * after.length + b < 64 := by omega
  calc (byteAt (valueOf (before ++ w :: after)) (8 * after.length)).getLsbD b
      = (valueOf ((before ++ [w]) ++ after)).getLsbD (8 * after.length + b) := by
        rw [getLsbD_byteAt _ _ _ hb, List.append_assoc, List.singleton_append]
    _ = (valueOf (before ++ [w])).getLsbD b := by
        rw [valueOf_append, BitVec.getLsbD_or, getLsbD_valueOf_of_ge after _ (Nat.le_add_right _ b)]
        simp only [BitVec.getLsbD_shiftLeft, hin, decide_true, Nat.not_lt.mpr (Nat.le_add_right _ b), decide_false,
          Bool.not_false, Bool.and_self, Bool.true_and, Nat.add_sub_cancel_left, Bool.or_false]
    _ = w.getLsbD b := getLsbD_valueOf_snoc before w b hb

/-- The last bytes of a value, as far as the buffer holds them, read back in the order of the wire (R97). -/
theorem bytesOf_valueOf_append (before value : List Word) (h : value.length ≤ 8) :
    bytesOf (valueOf (before ++ value)) value.length = value := by
  induction value generalizing before with
  | nil => rfl
  | cons w after ih =>
    have hrest := ih (before ++ [w]) (Nat.le_of_succ_le h)
    rw [List.append_assoc, List.singleton_append] at hrest
    rw [List.length_cons, bytesOf, byteAt_valueOf before after w h, hrest]

/-! ### Frames without a value byte -/

/-- Every frame, well-formed or not, is executed as the read or the write frame that its Words are (R94, R95). -/
theorem exec_cases (i : Instr) (s : State) :
    (∃ len x, encode i = readWords i.key len ∧ exec i s = .next (readFrame i.key len x s)) ∨
    (∃ value effect, encode i = writeWords i.key value ∧ exec i s = .next (writeFrame i.key value effect s)) := by
  cases i with
  | rdOdoCount1 len | rdOdoCount2 len | rdOdoCount3 len | rdOdoCount4 len | rdOdoCount5 len | rdOdoCount6 len
  | rdOdoSpeed1 len | rdOdoSpeed2 len | rdOdoSpeed3 len | rdOdoSpeed4 len | rdOdoSpeed5 len | rdOdoSpeed6 len
  | rdExtPort1 len | rdExtPort2 len | rdExtPort3 len | rdExtPort4 len | rdExtPort5 len | rdExtPort6 len
  | rdExtPort7 len | rdDiagConst len | rdDiag1 len | rdDiag2 len | rdDiag3 len | rdDiag4 len | rdDiag5 len
  | rdDiag6 len | rdUnknown _ len => exact .inl ⟨len, _, rfl, rfl⟩
  | wrReset value | wrLedGreen value | wrLedB value | wrLedC value
  | wrMotor1 value | wrMotor2 value | wrMotor3 value | wrMotor4 value | wrMotor5 value | wrMotor6 value
  | wrMotor7 value | wrMotor8 value | wrServo1 value | wrServo2 value | wrServo3 value | wrServo4 value
  | wrServo5 value | wrServo6 value | wrServo7 value | wrServo8 value | wrCtrl1 value | wrCtrl2 value
  | wrCtrl3 value | wrCtrl4 value | wrCtrl5 value | wrCtrl6 value | wrCtrl7 value
  | wrUnknown _ value => exact .inr ⟨value, _, rfl, rfl⟩

/-- What a selected zero-length frame leaves: its key and the zero length, and the decoder in `ReadKey` (R102). -/
def afterEmptyFrame (key : Word) (s : State) : State :=
  { s with key := key, length := 0#8, phase := .readKey, evt := .none, globalReset := false }

/-- A zero-length read raises nothing and sends nothing (R102, R153). -/
theorem readFrame_zero_selected (key : Word) (x : Value) (s : State) (hd : s.linkDesel = false) :
    readFrame key 0#8 x s = afterEmptyFrame key s := by
  simp [readFrame, hd, afterEmptyFrame]

/-- A zero-length write has no effect on any register or output (R102, R191). -/
theorem writeFrame_empty_selected (key : Word) (effect : State → State) (s : State) (hd : s.linkDesel = false) :
    writeFrame key [] effect s = afterEmptyFrame key s := by
  simp [writeFrame_empty, endWrite, received, hd, afterEmptyFrame]

/-! ### The statements -/

/-- Settles O47: the Words of the frame fix the length of a read or the value of a write, and neither kind does anything. -/
theorem zeroLengthFramesDoNothing : Obligations.ZeroLengthFramesDoNothing := by
  intro i s hz hd
  obtain ⟨len, x, he, hx⟩ | ⟨value, effect, he, hx⟩ := exec_cases i s
  · obtain rfl : len = 0#8 := by simpa [readWords] using he.symm.trans hz
    rw [hx, readFrame_zero_selected _ x s hd, afterEmptyFrame]
  · obtain rfl : value = [] := Laws.FrameEncoding.writeWords_value_inj (he.symm.trans hz)
    rw [hx, writeFrame_empty_selected _ effect s hd, afterEmptyFrame]

/-- Settles O53, by induction on the value, whatever was received before it. -/
theorem valueIsAssembledMostSignificantFirst : Obligations.ValueIsAssembledMostSignificantFirst :=
  ⟨byteAt_valueOf, bytesOf_valueOf_append []⟩

end Sys2Proof.Machine
end

section
/-! SUPPORT. SerialEngine: what each link event does, said once for a selected and once for a deselected link
(40_serial_engine R122 to R127), and the clock periods of a slot (R130, R134). -/

namespace Sys2Proof.Machine

/-! ### The step of each link event -/

section

variable {s : State} {rest : List Input}

theorem step_select (h : s.inputs = .select :: rest) : step s = .next (onSelect { s with inputs := rest }) := by
  simp only [step, h]

theorem step_deselect (h : s.inputs = .deselect :: rest) : step s = .next (onDeselect { s with inputs := rest }) := by
  simp only [step, h]

theorem step_rise (h : s.inputs = .rise :: rest) : step s = .next (onRise { s with inputs := rest }) := by
  simp only [step, h]

theorem step_fall {b : Bool} (h : s.inputs = .fall b :: rest) :
    step s = .next (onFall b { s with inputs := rest }) := by
  simp only [step, h]

end

/-! ### The edges -/

section

variable {s : State}

/-- The sampling edge on a deselected link (R127). -/
theorem onFall_deselected (b : Bool) (hd : s.linkDesel = true) : onFall b s = s := by
  simp only [onFall, hd, if_true]

/-- The sampling edge of the eighth bit (R123). -/
theorem onFall_eighth (b : Bool) (hd : s.linkDesel = false) (h7 : s.rxCnt = 7#3) :
    onFall b s = { s with
      rxShift := shiftIn s.rxShift b, rxWord := shiftIn s.rxShift b, rxToggle := !s.rxToggle, rxCnt := 0#3 } := by
  simp [onFall, hd, h7, inverted]

/-- The sampling edge of any bit before the eighth (R123). -/
theorem onFall_earlier (b : Bool) (hd : s.linkDesel = false) (h7 : s.rxCnt ≠ 7#3) :
    onFall b s = { s with rxShift := shiftIn s.rxShift b, rxCnt := s.rxCnt + 1#3 } := by
  simp [onFall, hd, h7]

/-- The driving edge on a deselected link (R127). -/
theorem onRise_deselected (hd : s.linkDesel = true) : onRise s = s := by
  simp only [onRise, hd, if_true]

end

/-- What the driving edge does before it drives: at the first bit of a slot the queued Word, or any Word where none is
queued, becomes the Word being sent (R124, R133). -/
def latched (s : State) : State :=
  if s.txCnt = 0#3 then
    if s.txPendingValid then
      { s with txShift := s.txPending, txPendingValid := false, txToggle := !s.txToggle }
    else { s with txShift := drawn s .idleSlot 8, draws := s.draws + 1 }
  else s

section

variable {s : State}

theorem latched_queued (h0 : s.txCnt = 0#3) (hv : s.txPendingValid = true) :
    latched s = { s with txShift := s.txPending, txPendingValid := false, txToggle := !s.txToggle } := by
  simp only [latched, h0, hv, if_true]

theorem latched_unqueued (h0 : s.txCnt = 0#3) (hv : s.txPendingValid = false) :
    latched s = { s with txShift := drawn s .idleSlot 8, draws := s.draws + 1 } := by
  simp [latched, h0, hv]

theorem latched_later (h0 : s.txCnt ≠ 0#3) : latched s = s := by
  simp only [latched, h0, if_false]

/-- Latching at the first bit of a slot leaves the queue empty, and inverts the flag if it was not (R124, R133). -/
theorem latched_first (h0 : s.txCnt = 0#3) : ∃ (cur : Word) (d : Nat), latched s = { s with
    txShift := cur, txPendingValid := false, txToggle := if s.txPendingValid then !s.txToggle else s.txToggle
    draws := d } := by
  cases hv : s.txPendingValid with
  | true => exact ⟨_, _, latched_queued h0 hv⟩
  | false => exact ⟨drawn s .idleSlot 8, s.draws + 1, by simp [latched_unqueued h0 hv, hv]⟩

/-- Latching touches the transmit side and the draw counter alone (R124). -/
theorem latched_eq (s : State) : ∃ (sh : Word) (v tg : Bool) (d : Nat),
    latched s = { s with txShift := sh, txPendingValid := v, txToggle := tg, draws := d } := by
  unfold latched
  split
  · split
    · exact ⟨s.txPending, false, !s.txToggle, s.draws, rfl⟩
    · exact ⟨drawn s .idleSlot 8, s.txPendingValid, s.txToggle, s.draws + 1, rfl⟩
  · exact ⟨s.txShift, s.txPendingValid, s.txToggle, s.draws, rfl⟩

/-- The driving edge of a selected link drives a bit of the Word then latched (R124). -/
theorem onRise_selected (hd : s.linkDesel = false) : onRise s = driveBit (latched s).txShift (latched s) := by
  by_cases h0 : s.txCnt = 0#3
  · cases hv : s.txPendingValid with
    | true => simp [onRise, hd, h0, hv, latched_queued h0 hv, inverted, driveBit]
    | false => simp [onRise, hd, h0, hv, latched_unqueued h0 hv, spend, driveBit]
  · simp [onRise, hd, h0, latched_later h0]

/-- Driving the first bit of a slot shows bit 7 of the Word and leaves the counter at 1 (R124). -/
theorem driveBit_first (cur : Word) (h0 : s.txCnt = 0#3) :
    driveBit cur s = { s with linkOut := cur.getLsbD 7, txShift := shiftOut cur, txCnt := 1#3 } := by
  rw [driveBit, h0]
  rfl

end

/-! ### The deselection -/

/-- A deselected link already has what `Deselect` sets: nothing queued, both counters 0 (R126, R290; log 16). -/
theorem onDeselect_deselected {s : State} (h : Inv s) (hd : s.linkDesel = true) : onDeselect s = s := by
  obtain ⟨hrx, htx⟩ := h.boundaries hd
  have hq : s.txPendingValid = false := by
    cases hv : s.txPendingValid with
    | false => rfl
    | true => exact absurd (hd.symm.trans (h.queue hv)) (by decide)
  cases s
  cases hd
  cases hrx
  cases htx
  cases hq
  rfl

/-! ### The statements about one event -/

/-- Settles O14: the step is `onSelect`, and the counters are what the invariants say of a deselected link. -/
theorem selectOnlySelects : Obligations.SelectOnlySelects := by
  intro s rest hin
  refine ⟨step_select hin, fun hd => ?_, fun h hd => h.boundaries hd⟩
  rw [step_select hin, onSelect, ← hd]

/-- Settles O15: neither edge has an effect on a deselected link. -/
theorem edgesWhileDeselectedChangeNothing : Obligations.EdgesWhileDeselectedChangeNothing := by
  intro s rest hd
  let u : State := { s with inputs := rest }
  refine ⟨fun hin => ?_, fun b hin => ?_⟩
  · rw [step_rise hin, onRise_deselected (s := u) hd]
  · rw [step_fall hin, onFall_deselected (s := u) b hd]

/-- Settles O16: the Word of both selected cases is the shift register with the bit shifted in. -/
theorem fallSamplesOneBit : Obligations.FallSamplesOneBit := by
  intro s b rest hin
  let u : State := { s with inputs := rest }
  obtain ⟨hlow, hhigh⟩ := getLsbD_shiftIn s.rxShift b
  refine ⟨fun hd => (edgesWhileDeselectedChangeNothing s rest hd).2 b hin,
    fun hd => ⟨shiftIn s.rxShift b, hlow, hhigh, fun h7 => ?_, fun h7 => ?_⟩⟩
  · rw [step_fall hin, onFall_eighth (s := u) b hd h7]
  · rw [step_fall hin, onFall_earlier (s := u) b hd h7]

/-- Settles O17: the Word driven is the one that `latched` leaves to be sent, in each of its three cases. -/
theorem riseDrivesOneBit : Obligations.RiseDrivesOneBit := by
  intro s rest hin
  let u : State := { s with inputs := rest }
  have drives (hd : s.linkDesel = false) : step s = .next (driveBit (latched u).txShift (latched u)) := by
    rw [step_rise hin, onRise_selected (s := u) hd]
  refine ⟨fun hd => (edgesWhileDeselectedChangeNothing s rest hd).1 hin, fun hd h0 hv => ?_, fun hd h0 => ?_,
    fun hd h0 hv => ?_⟩
  · obtain ⟨hlow, hhigh⟩ := getLsbD_shiftOut s.txPending
    refine ⟨shiftOut s.txPending, hlow, hhigh, (drives hd).trans ?_⟩
    rw [latched_queued (s := u) h0 hv]
    exact congrArg Host.Outcome.next (driveBit_first s.txPending h0)
  · obtain ⟨hlow, hhigh⟩ := getLsbD_shiftOut s.txShift
    refine ⟨shiftOut s.txShift, hlow, hhigh, (drives hd).trans ?_⟩
    rw [latched_later (s := u) h0]
    rfl
  · obtain ⟨hlow, hhigh⟩ := getLsbD_shiftOut (drawn u .idleSlot 8)
    refine ⟨drawn u .idleSlot 8, _, s.draws + 1, hlow, hhigh, (drives hd).trans ?_⟩
    rw [latched_unqueued (s := u) h0 hv]
    exact congrArg Host.Outcome.next (driveBit_first _ h0)

/-- Settles O18: the step is `onDeselect`, which the invariants leave nothing to do on a deselected link. -/
theorem deselectResetsTheLink : Obligations.DeselectResetsTheLink := by
  intro s rest hin
  refine ⟨⟨_, _, step_deselect hin⟩, fun h hd => ?_⟩
  rw [step_deselect hin, onDeselect_deselected (inv_withInputs h rest) hd]

/-! ### Runs -/

section

variable {s t : State}

/-- A run begins with its first step. -/
theorem run_of_step (n : Nat) (h : step s = .next t) :
    Host.Core.run Sys2Proof.core (n + 1) s = Host.Core.run Sys2Proof.core n t := by
  have hcore : Sys2Proof.core.step s = .next t := h
  simp only [Host.Core.run, hcore]

/-- A `Rise` shows the host one bit. -/
theorem hostSees_rise {rest : List Input} (n : Nat) (h : s.inputs = .rise :: rest) :
    hostSees (n + 1) s =
      (onRise { s with inputs := rest }).linkOut :: hostSees n (onRise { s with inputs := rest }) := by
  simp [hostSees, step_rise h, h]

/-- A `Fall` shows the host none. -/
theorem hostSees_fall {rest : List Input} {b : Bool} (n : Nat) (h : s.inputs = .fall b :: rest) :
    hostSees (n + 1) s = hostSees n (onFall b { s with inputs := rest }) := by
  simp [hostSees, step_fall h, h]

end

/-! ### The events still to come -/

/-- What is latched does not depend on the events after it (R124). -/
theorem latched_withInputs (s : State) (rest : List Input) :
    latched { s with inputs := rest } = { latched s with inputs := rest } := by
  unfold latched
  split_ifs <;> rfl

/-- `Rise` does not depend on the events after it (R124). -/
theorem onRise_withInputs (s : State) (rest : List Input) :
    onRise { s with inputs := rest } = { onRise s with inputs := rest } := by
  unfold onRise
  split_ifs <;> rfl

/-! ### One clock period -/

/-- One clock period, without ticks (R130): what `Rise` and then `Fall b` make of a state. -/
def clocked (b : Bool) (s : State) : State := onFall b (onRise s)

/-- The two events of a clock period are two steps, of which the first shows the host a bit (R130). -/
theorem run_wireBit {s : State} {b : Bool} {more : List Input} (n : Nat) (hin : s.inputs = wireBit 0 b ++ more) :
    Host.Core.run Sys2Proof.core (n + 2) s =
        Host.Core.run Sys2Proof.core n (clocked b { s with inputs := more }) ∧
      hostSees (n + 2) s = (onRise s).linkOut :: hostSees n (clocked b { s with inputs := more }) := by
  have hrise : s.inputs = .rise :: .fall b :: more := hin
  let t : State := { onRise s with inputs := .fall b :: more }
  have ht : onRise { s with inputs := .fall b :: more } = t := onRise_withInputs s _
  have hfall : { t with inputs := more } = onRise { s with inputs := more } := (onRise_withInputs s more).symm
  constructor
  · rw [run_of_step _ (step_rise hrise), ht, run_of_step n (step_fall (s := t) rfl), hfall, clocked]
  · rw [hostSees_rise _ hrise, ht, hostSees_fall (s := t) n rfl, hfall, clocked]

/-! ### The bits of a Word on the wire -/

/-- The first bit sent of a Word is its bit 7, and the next ones are those of the Word shifted out once (R124, R134). -/
theorem take_wireOrder_succ (w : Word) {n : Nat} (h : n ≤ 7) :
    (wireOrder w).take (n + 1) = w.msb :: (wireOrder (shiftOut w)).take n := by
  obtain ⟨-, hs⟩ := getLsbD_shiftOut w
  have hw : wireOrder w = w.msb :: (wireOrder (shiftOut w)).take 7 := by
    simp only [wireOrder, List.take_succ_cons, List.take_zero, hs, Nat.reduceLT]
    rfl
  rw [hw, List.take_succ_cons, List.take_take, Nat.min_eq_left h]

/-- Eight bits shifted in, bit 7 first, are the Word, whatever was in the register before (R123, R134). -/
theorem foldl_shiftIn_wireOrder (v w : Word) : (wireOrder w).foldl shiftIn v = w := by
  have hlow (v : Word) (b : Bool) := (getLsbD_shiftIn v b).1
  have hhigh (v : Word) (b : Bool) := (getLsbD_shiftIn v b).2
  apply BitVec.eq_of_getLsbD_eq
  intro j hj
  simp only [wireOrder, List.foldl_cons, List.foldl_nil]
  interval_cases j <;> simp only [hlow, hhigh, Nat.reduceLT]

/-! ### The clock periods of a slot -/

/-- Selected, with `n` bits of the slot still to come in both directions (R130). -/
structure ToCome (n : Nat) (s : State) : Prop where
  selected : s.linkDesel = false
  together : s.rxCnt = s.txCnt
  left : s.txCnt.toNat + n = 8

section

variable {s : State} {n : Nat} {b : Bool}

/-- The last clock period of a slot completes a Word (R123, R130). -/
theorem clocked_last (h : ToCome 1 s) : clocked b s = { latched s with
    linkOut := (latched s).txShift.msb, txShift := shiftOut (latched s).txShift, txCnt := 0#3
    rxShift := shiftIn s.rxShift b, rxWord := shiftIn s.rxShift b, rxToggle := !s.rxToggle, rxCnt := 0#3 } := by
  have h7 : s.txCnt = 7#3 := BitVec.eq_of_toNat_eq (Nat.add_right_cancel h.left)
  obtain ⟨sh, v, tg, d, hl⟩ := latched_eq s
  rw [clocked, onRise_selected h.selected, hl,
    onFall_eighth b (by exact h.selected) (by exact h.together.trans h7), driveBit, h7]
  rfl

/-- Any clock period before it moves both counters on by one bit (R123, R124, R130). -/
theorem clocked_earlier (h : ToCome (n + 2) s) : clocked b s = { latched s with
    linkOut := (latched s).txShift.msb, txShift := shiftOut (latched s).txShift, txCnt := s.txCnt + 1#3
    rxShift := shiftIn s.rxShift b, rxCnt := s.rxCnt + 1#3 } := by
  have h7 : s.rxCnt ≠ 7#3 := by
    intro h7
    have hleft := h.left
    rw [← h.together, h7, BitVec.toNat_ofNat] at hleft
    omega
  obtain ⟨sh, v, tg, d, hl⟩ := latched_eq s
  rw [clocked, onRise_selected h.selected, hl, onFall_earlier b (by exact h.selected) (by exact h7)]
  rfl

/-- Any clock period before the last leaves one bit less to come, and is no longer the first (R130). -/
theorem toCome_clocked (h : ToCome (n + 2) s) :
    ToCome (n + 1) (clocked b s) ∧ latched (clocked b s) = clocked b s := by
  have hcount : (s.txCnt + 1#3).toNat = s.txCnt.toNat + 1 := by
    have hleft := h.left
    rw [BitVec.toNat_add, BitVec.toNat_ofNat]
    omega
  obtain ⟨sh, v, tg, d, hl⟩ := latched_eq s
  rw [clocked_earlier h, hl]
  refine ⟨⟨h.selected, congrArg (· + 1#3) h.together, ?_⟩, latched_later fun h0 => ?_⟩
  · have hleft := h.left
    exact hcount ▸ (by omega)
  · have hzero : (s.txCnt + 1#3).toNat = 0 := congrArg BitVec.toNat h0
    omega

end

/-- What is left of a slot, by induction on its bits: they are shifted in and complete a Word, as many bits of the Word
latched are shown to the host, and nothing but the link side changes (R130, R134). -/
theorem run_slot (rest : List Input) (bits : List Bool) (s : State) (h : ToCome bits.length s)
    (hin : s.inputs = bits.flatMap (wireBit 0) ++ rest) :
    (∃ (o : Bool) (sh : Word), Host.Core.run Sys2Proof.core (2 * bits.length) s = .next { latched s with
      inputs := rest, linkOut := o, txShift := sh, txCnt := 0#3, rxShift := bits.foldl shiftIn s.rxShift
      rxWord := bits.foldl shiftIn s.rxShift, rxToggle := !s.rxToggle, rxCnt := 0#3 }) ∧
    hostSees (2 * bits.length) s = (wireOrder (latched s).txShift).take bits.length := by
  induction bits generalizing s with
  | nil =>
    have hfull : s.txCnt.toNat = 8 := h.left
    omega
  | cons b more ih =>
    have hbits : more.length ≤ 7 := by
      have hleft : s.txCnt.toNat + (more.length + 1) = 8 := h.left
      omega
    let u : State := { s with inputs := more.flatMap (wireBit 0) ++ rest }
    have hsplit : s.inputs = wireBit 0 b ++ (more.flatMap (wireBit 0) ++ rest) := by
      rw [hin, List.flatMap_cons, List.append_assoc]
    obtain ⟨hrun, hsees⟩ := run_wireBit (2 * more.length) hsplit
    rw [onRise_selected h.selected] at hsees
    rw [List.length_cons, Nat.mul_succ, take_wireOrder_succ _ hbits, hrun, hsees]
    obtain ⟨sh, v, tg, d, hl⟩ := latched_eq s
    have hu : latched u = { latched s with inputs := u.inputs } := latched_withInputs s u.inputs
    cases more with
    | nil =>
      have hcome : ToCome 1 u := { h with }
      have hclocked := clocked_last (b := b) hcome
      rw [hclocked, hu, hl]
      exact ⟨⟨_, _, rfl⟩, rfl⟩
    | cons b' more =>
      have hcome : ToCome (more.length + 2) u := { h with }
      obtain ⟨hnext, hlatched⟩ := toCome_clocked (b := b) hcome
      have hclocked := clocked_earlier (b := b) hcome
      obtain ⟨⟨o, sh', hrest⟩, hshown⟩ := ih (clocked b u) hnext (by rw [hclocked, hu])
      rw [hlatched] at hrest hshown
      refine ⟨⟨o, sh', hrest.trans ?_⟩, ?_⟩
      · rw [hclocked, hu, hl]
        rfl
      · rw [hshown, hclocked, hu]
        rfl

/-- Settles O19: `run_slot` from a Word boundary, with what is latched there of a queued Word and of an empty queue. -/
theorem slotMovesOneWordEachWay : Obligations.SlotMovesOneWordEachWay := by
  intro s w rest hd hrx htx hin
  have hslot : ToCome (wireOrder w).length s := ⟨hd, hrx.trans htx.symm, by rw [htx]; rfl⟩
  have hbits : s.inputs = (wireOrder w).flatMap (wireBit 0) ++ rest := by
    rw [hin, wireWords, List.flatMap_singleton]
  obtain ⟨⟨o, sh, hrun⟩, hsees⟩ := run_slot rest (wireOrder w) s hslot hbits
  rw [foldl_shiftIn_wireOrder] at hrun
  refine ⟨_, hrun, fun hv => ?_, ?_⟩
  · rw [latched_queued htx hv] at hsees ⊢
    exact ⟨hsees, rfl⟩
  · obtain ⟨cur, d, hlatched⟩ := latched_first htx
    rw [hlatched]

end Sys2Proof.Machine
end

section
/-! SUPPORT. FrameDecoder: what a tick does in each state, said once per rule (41_frame_decoder R150 to R162). -/

namespace Sys2Proof.Machine

/-! ### The tick -/

/-- Settles O7: without `global_reset` the core's reset is out of the question, and every frame that is due is executed
as FrameDecoder's own transition. -/
theorem tickIsTheStepFunction : Obligations.TickIsTheStepFunction := by
  intro s hg
  rw [tick_eq, hg, Bool.false_and, if_neg Bool.false_ne_true]

/-- A tick without `global_reset` runs the frame that is due, in the state that the fetch gives (R150). -/
theorem tick_of_frameDue {s u : State} {words rest : List Word} {i : Instr} (hg : s.globalReset = false)
    (hf : frameDue s = some (u, words)) (hdec : decode words = .ok (i, rest)) : tick s = exec i u := by
  simp only [tick, hg, Bool.false_and, if_neg Bool.false_ne_true, hf, hdec]

/-- Settles O5: with a tick to come or no event at all, the step is the tick. -/
theorem stepRunsTheFrameThatIsDue : Obligations.StepRunsTheFrameThatIsDue := by
  intro s u words rest i
  refine ⟨fun hg hin hf hdec => ?_, fun more hg hin hf hdec => ?_⟩
  · simp only [step, hin, tick_of_frameDue hg hf hdec]
  · simp only [step, hin]
    exact tick_of_frameDue hg hf hdec

/-- Part 2 of the next tick is the rule of the current state: selected, no event to commit, no `global_reset` (R150). -/
structure Ready (s : State) : Prop where
  selected : s.linkDesel = false
  noEvent : s.evt = .none
  noPulse : s.globalReset = false

section

variable {s : State}

/-- With no event to service, `Service` only ends the pulse of `global_reset` (R193). -/
theorem service_noEvent (he : s.evt = .none) (hg : s.globalReset = false) : service s = s := by
  cases s
  cases he
  cases hg
  rfl

/-- The tick of a ready state is the rule of its decoder state (R150 (3), R151). -/
theorem decoderTick_of_ready (h : Ready s) : decoderTick s = decodeState s := by
  simp [decoderTick, service_noEvent h.noEvent h.noPulse, decodePart, h.selected, h.noEvent]

theorem tick_of_ready (h : Ready s) : tick s = .next (decodeState s) := by
  rw [tickIsTheStepFunction s h.noPulse, decoderTick_of_ready h]

/-! ### The rule of each state -/

theorem decodeState_readKey (hp : s.phase = .readKey) (hn : rxNew s = true) : decodeState s = onKeyWord s := by
  simp only [decodeState, hp, hn, if_true]

theorem decodeState_getReadLength (hp : s.phase = .getReadLength) (hn : rxNew s = true) :
    decodeState s = onReadLength s := by
  simp only [decodeState, hp, hn, if_true]

theorem decodeState_getWriteLength (hp : s.phase = .getWriteLength) (hn : rxNew s = true) :
    decodeState s = onWriteLength s := by
  simp only [decodeState, hp, hn, if_true]

theorem decodeState_masterWrite (hp : s.phase = .masterWrite) (hn : rxNew s = true) :
    decodeState s = onValueWord s := by
  simp only [decodeState, hp, hn, if_true]

theorem decodeState_masterRead (hp : s.phase = .masterRead) : decodeState s = onMasterRead s := by
  simp only [decodeState, hp]

/-- Without a received Word every state but `MasterRead` only observes (R161, R164). -/
theorem decodeState_noWord (hp : s.phase ≠ .masterRead) (hn : rxNew s = false) : decodeState s = observed s := by
  cases h : s.phase with
  | masterRead => exact absurd h hp
  | readKey | getReadLength | getWriteLength | masterWrite =>
    simp only [decodeState, h, hn, if_neg Bool.false_ne_true]

/-- Outside `MasterRead` no rule looks at the seen-copy of the transmit flag, which all of them set (R161). -/
theorem decodeState_withTxSeen (hp : s.phase ≠ .masterRead) (b : Bool) :
    decodeState { s with txSeen := b } = decodeState s := by
  cases h : s.phase with
  | masterRead => exact absurd h hp
  | readKey | getReadLength | getWriteLength | masterWrite =>
    cases s
    cases h
    rfl

/-! ### `MasterRead` -/

/-- An acceptance goes first, unless the last byte had been accepted before (R158, R159). -/
theorem onMasterRead_acceptance (hl : s.rdLast = false) (ht : txNew s = true) : onMasterRead s = onAcceptance s := by
  simp [onMasterRead, hl, ht]

/-- A received Word ends the frame once the last byte was accepted, and is dropped before (R159). -/
theorem onMasterRead_word (hn : rxNew s = true) (ht : txNew s = false) :
    onMasterRead s =
      if s.rdLast then { observed s with phase := .readKey, rdLast := false } else observed s := by
  simp [onMasterRead, hn, ht]

/-- Without an acceptance or a Word there is nothing to do (R164). -/
theorem onMasterRead_noWork (hn : rxNew s = false) (ht : txNew s = false) : onMasterRead s = observed s := by
  simp [onMasterRead, hn, ht]

/-- The acceptance of the last value byte (R158). -/
theorem onAcceptance_last (hl : s.rdLast = false) (ho : s.offset = 0#11) :
    onAcceptance s = { observed s with rdLast := true } := by
  simp [onAcceptance, hl, ho]

/-- The acceptance of any value byte before it queues the byte below, from the buffer where it reaches (R103, R158). -/
theorem onAcceptance_next (hd : s.linkDesel = false) (hl : s.rdLast = false) (ho : s.offset ≠ 0#11) :
    ∃ (b : Word) (d : Nat),
      onAcceptance s = { observed s with
        offset := s.offset - 8#11, txPending := b, txPendingValid := true, draws := d } ∧
      ((s.offset - 8#11).toNat < 64 → d = s.draws ∧ b = byteAt s.vbuf (s.offset - 8#11).toNat) := by
  obtain ⟨b, v, d, hsub, hvalid, -, hbyte⟩ :=
    submitAt_eq (s.offset - 8#11) { observed s with offset := s.offset - 8#11 }
  obtain rfl : v = true := hvalid hd
  refine ⟨b, d, ?_, fun hin => ⟨(hbyte hin).1, (hbyte hin).2 hd⟩⟩
  simpa [onAcceptance, hl, ho] using hsub

/-- Below an offset other than 0 there is a whole byte (R27). -/
theorem toNat_sub_byte {o : Offset} (ha : o.toNat % 8 = 0) (ho : o ≠ 0#11) : (o - 8#11).toNat + 8 = o.toNat := by
  have hn : o.toNat ≠ 0 := fun e => ho (BitVec.eq_of_toNat_eq e)
  have h8 : 8 ≤ o.toNat := by omega
  rw [BitVec.toNat_sub_of_le h8]
  exact Nat.sub_add_cancel h8

/-! ### Ticks in which nothing is pending -/

/-- Observing flags that show no work changes nothing (R29, R151). -/
theorem observed_noWork (hn : rxNew s = false) (ht : txNew s = false) : observed s = s := by
  have hrx : s.rxToggle = s.rxSeen := by simpa [rxNew] using hn
  have htx : s.txToggle = s.txSeen := by simpa [txNew] using ht
  cases s
  cases hrx
  cases htx
  rfl

/-- Without work no decoder state moves (R164). -/
theorem decodeState_noWork (hn : rxNew s = false) (ht : txNew s = false) : decodeState s = s := by
  by_cases hp : s.phase = .masterRead
  · rw [decodeState_masterRead hp, onMasterRead_noWork hn ht, observed_noWork hn ht]
  · rw [decodeState_noWord hp hn, observed_noWork hn ht]

/-! ### The events that a tick raises -/

/-- `Service` does not touch the link (R193). -/
@[simp] theorem service_linkDesel (s : State) : (service s).linkDesel = s.linkDesel := by
  obtain ⟨g, b, r, ps, d, hs, -⟩ := service_eq s
  rw [hs]

/-- A deselected tick only cancels, after the service (R150, R160). -/
theorem decoderTick_deselected (hd : s.linkDesel = true) : decoderTick s = cancelFrame (service s) := by
  simp [decoderTick, decodePart, hd]

/-- Submitting raises no event (R125). -/
@[simp] theorem submitAt_evt (o : Offset) (s : State) : (submitAt o s).evt = s.evt := by
  obtain ⟨w, v, d, h, -⟩ := submitAt_eq o s
  rw [h]

/-- `MasterRead` raises no event (R158, R159, R162). -/
theorem onMasterRead_evt (s : State) : (onMasterRead s).evt = s.evt := by
  unfold onMasterRead onAcceptance
  split_ifs <;> simp

/-- Only a ready state raises an event: a tick that cancels or commits one raises none (R156, R157, R160, R162). -/
theorem decoderTick_evt_of_not_ready (h : s.linkDesel = true ∨ s.evt ≠ .none) : (decoderTick s).evt = .none := by
  cases hd : s.linkDesel with
  | true =>
    rw [decoderTick_deselected hd]
    rfl
  | false =>
    cases he : s.evt with
    | none => simp [hd, he] at h
    | readReq | writeDone => simp [decoderTick, he, decodePart, hd]

/-- The rules that raise a read-request (R153, R162). -/
theorem decodeState_evt_readReq (he : s.evt = .none) : (decodeState s).evt = .readReq ↔
    s.phase = .getReadLength ∧ rxNew s = true ∧ s.rxWord ≠ 0#8 := by
  cases hp : s.phase with
  | masterRead => simp [decodeState_masterRead hp, onMasterRead_evt, he]
  | readKey | getReadLength | getWriteLength | masterWrite =>
    simp only [decodeState, hp, onKeyWord, onReadLength, onWriteLength, onValueWord]
    split_ifs <;> simp_all

/-- The rules that raise a write-complete (R154, R155, R162). -/
theorem decodeState_evt_writeDone (he : s.evt = .none) : (decodeState s).evt = .writeDone ↔
    rxNew s = true ∧ ((s.phase = .getWriteLength ∧ s.rxWord = 0#8) ∨ (s.phase = .masterWrite ∧ s.offset = 0#11)) := by
  cases hp : s.phase with
  | masterRead => simp [decodeState_masterRead hp, onMasterRead_evt, he]
  | readKey | getReadLength | getWriteLength | masterWrite =>
    simp only [decodeState, hp, onKeyWord, onReadLength, onWriteLength, onValueWord]
    split_ifs <;> simp_all

end

/-! ### The statements about one tick -/

/-- Settles O20: bit 7 of a key is its most significant bit. -/
theorem keyWordChoosesTheFormat : Obligations.KeyWordChoosesTheFormat := by
  intro s hg hd he hp hn
  rw [tick_of_ready ⟨hd, he, hg⟩, decodeState_readKey hp hn, onKeyWord, isWriteKey, msb_eq_bit7]
  rfl

/-- Settles O21, in the two cases of `onReadLength`. -/
theorem lengthWordOfARead : Obligations.LengthWordOfARead := by
  intro s hg hd he hp hn
  have ht : tick s = .next (onReadLength s) := by rw [tick_of_ready ⟨hd, he, hg⟩, decodeState_getReadLength hp hn]
  refine ⟨fun hw => ?_, fun hw => ⟨offsetOf s.rxWord, offsetOf_toNat s.rxWord hw, ?_⟩⟩
  · rw [ht, onReadLength, if_pos hw, ← hw]
    rfl
  · rw [ht, onReadLength, if_neg hw]
    rfl

/-- Settles O22, in the two cases of `onWriteLength`. -/
theorem lengthWordOfAWrite : Obligations.LengthWordOfAWrite := by
  intro s hg hd he hp hn
  have ht : tick s = .next (onWriteLength s) := by rw [tick_of_ready ⟨hd, he, hg⟩, decodeState_getWriteLength hp hn]
  refine ⟨fun hw => ?_, fun hw => ⟨offsetOf s.rxWord, offsetOf_toNat s.rxWord hw, ?_⟩⟩
  · rw [ht, onWriteLength, if_pos hw, ← hw]
    rfl
  · rw [ht, onWriteLength, if_neg hw]
    rfl

/-- A value Word is stored at the offset, and nowhere where the buffer ends (R155, decision D12). -/
theorem getLsbD_storedByte (s : State) (j : Nat) (hj : j < 64) :
    (storedByte s).getLsbD j =
      if s.offset.toNat ≤ j ∧ j < s.offset.toNat + 8 then s.rxWord.getLsbD (j - s.offset.toNat)
      else s.vbuf.getLsbD j := by
  unfold storedByte
  split
  · exact getLsbD_putByte _ _ _ _ hj
  · rw [if_neg (by omega)]

/-- Settles O23: the buffer of both cases of `onValueWord` is `storedByte`. -/
theorem valueWordIsStoredAtTheOffset : Obligations.ValueWordIsStoredAtTheOffset := by
  intro s hg hd he hp hn
  have ht : tick s = .next (onValueWord s) := by rw [tick_of_ready ⟨hd, he, hg⟩, decodeState_masterWrite hp hn]
  refine ⟨storedByte s, fun j hj => getLsbD_storedByte s j hj, fun ho => ?_, fun ho => ?_⟩
  · rw [ht, onValueWord, if_pos ho]
    rfl
  · rw [ht, onValueWord, if_neg ho]
    rfl

/-- Settles O24: the rule of such a state sets the seen-copy of the transmit flag without looking at it. -/
theorem acceptanceOutsideMasterReadIsOnlySeen : Obligations.AcceptanceOutsideMasterReadIsOnlySeen := by
  intro s hg hd he hp
  refine ⟨?_, fun hn => ?_⟩
  · have hseen : Ready { s with txSeen := s.txToggle } := ⟨hd, he, hg⟩
    rw [tick_of_ready ⟨hd, he, hg⟩, tick_of_ready hseen, decodeState_withTxSeen hp s.txToggle]
  · have hrx : s.rxToggle = s.rxSeen := by simpa [rxNew] using hn
    rw [tick_of_ready ⟨hd, he, hg⟩, decodeState_noWord hp hn, observed, hrx]

/-- Settles O25: at offset 0 there is no byte below the one accepted. -/
theorem acceptanceSubmitsTheNextByte : Obligations.AcceptanceSubmitsTheNextByte := by
  intro s hg hd he hp hl hn ha
  have ht : tick s = .next (onAcceptance s) := by
    rw [tick_of_ready ⟨hd, he, hg⟩, decodeState_masterRead hp, onMasterRead_acceptance hl hn]
  refine ⟨fun ho => ?_, fun ho => ?_⟩
  · rw [ht, onAcceptance_last hl ho]
    rfl
  · obtain ⟨b, d, hnext, hbyte⟩ := onAcceptance_next hd hl ho
    refine ⟨s.offset - 8#11, b, d, toNat_sub_byte ha ho, fun hin => ?_, ?_⟩
    · obtain ⟨hdraws, rfl⟩ := hbyte hin
      exact ⟨hdraws, fun j hj => getLsbD_byteAt _ _ _ hj⟩
    · rw [ht, hnext]
      rfl

/-- Settles O26, for both values of `rd_last`. -/
theorem wordEndsAReadFrame : Obligations.WordEndsAReadFrame := by
  intro s hg hd he hp hn ht
  rw [tick_of_ready ⟨hd, he, hg⟩, decodeState_masterRead hp, onMasterRead_word hn ht]
  cases hl : s.rdLast with
  | true => rfl
  | false =>
    simp only [if_neg Bool.false_ne_true, observed]
    rw [← hp, ← hl]

/-- Settles O27: the tick is the rule of the state, which finds no work. -/
theorem quietTickChangesNothing : Obligations.QuietTickChangesNothing := by
  intro s hg hd he hn ht
  rw [tick_of_ready ⟨hd, he, hg⟩, decodeState_noWork hn ht]

/-- Settles O28: the service has nothing to do, and the decode part cancels. -/
theorem deselectionCancelsInEveryState : Obligations.DeselectionCancelsInEveryState := by
  intro s hg hd he
  rw [tickIsTheStepFunction s hg, decoderTick_deselected hd, service_noEvent he hg]
  rfl

/-- Settles O29: only the rule of a ready state raises an event. -/
theorem eventsAreRaisedAndServicedOnce : Obligations.EventsAreRaisedAndServicedOnce := by
  intro s t hg hstep
  obtain rfl : decoderTick s = t := Host.Outcome.next.inj ((tickIsTheStepFunction s hg).symm.trans hstep)
  by_cases h : s.linkDesel = false ∧ s.evt = .none
  · obtain ⟨hd, he⟩ := h
    rw [decoderTick_of_ready ⟨hd, he, hg⟩, decodeState_evt_readReq he, decodeState_evt_writeDone he]
    simp [hd, he]
  · have hnone : (decoderTick s).evt = .none := by
      refine decoderTick_evt_of_not_ready ?_
      rcases Bool.eq_false_or_eq_true s.linkDesel with hd | hd
      · exact .inl hd
      · exact .inr fun he => h ⟨hd, he⟩
    rw [hnone]
    exact ⟨⟨nofun, fun ⟨hd, he, _⟩ => absurd ⟨hd, he⟩ h⟩, ⟨nofun, fun ⟨hd, he, _⟩ => absurd ⟨hd, he⟩ h⟩⟩

end Sys2Proof.Machine
end

section
/-! SUPPORT. Runs of a host that leaves two ticks after each link event (70_reset_and_hazards R316 to R320): what the
host sees of a slot, and what FrameDecoder sees of it (40_serial_engine R130, R134). -/

namespace Sys2Proof.Machine

/-! ### What FrameDecoder does not look at -/

/-- The bits of the current slot in both directions, and the events to come: FrameDecoder neither reads nor writes them
(R20, R22, R23). -/
structure Wire where
  linkOut : Bool
  rxShift : Word
  rxCnt : BitCount
  txShift : Word
  txCnt : BitCount
  inputs : List Input

/-- The part of a state that `Wire` holds. -/
def State.wire (s : State) : Wire :=
  { linkOut := s.linkOut, rxShift := s.rxShift, rxCnt := s.rxCnt, txShift := s.txShift, txCnt := s.txCnt
    inputs := s.inputs }

/-- The state with that part replaced. -/
def State.withWire (s : State) (x : Wire) : State :=
  { s with
    linkOut := x.linkOut, rxShift := x.rxShift, rxCnt := x.rxCnt, txShift := x.txShift, txCnt := x.txCnt
    inputs := x.inputs }

section

variable (s : State) (x : Wire)

/-- Replacing the wire goes into both branches of a rule. -/
theorem ite_withWire {x : Wire} {c : Prop} [Decidable c] {a a' b b' : State} (ha : a' = a.withWire x)
    (hb : b' = b.withWire x) : (if c then a' else b') = (if c then a else b).withWire x := by
  split
  · exact ha
  · exact hb

/-! Each part of a tick commutes with it, branch by branch. -/

theorem submitAt_withWire (o : Offset) : submitAt o (s.withWire x) = (submitAt o s).withWire x :=
  ite_withWire (ite_withWire rfl rfl) (ite_withWire rfl rfl)

theorem memWrite_withWire (key : Word) (L : Nat) (v : Value) :
    memWrite key L v (s.withWire x) = (memWrite key L v s).withWire x := by
  refine ite_withWire rfl ?_
  have hentry : (s.withWire x).entry key = s.entry key := rfl
  rw [hentry]
  cases s.entry key with
  | none => rfl
  | some e =>
    refine ite_withWire ?_ rfl
    unfold State.updateRegister
    cases e.accessor <;> rfl

theorem service_withWire : service (s.withWire x) = (service s).withWire x := by
  have hevt : (s.withWire x).evt = s.evt := rfl
  cases he : s.evt with
  | none | readReq => simp only [service, hevt, he]; rfl
  | writeDone =>
    simp only [service, hevt, he]
    exact memWrite_withWire { s with evt := .writeDone, globalReset := false } x _ _ _

theorem onMasterRead_withWire : onMasterRead (s.withWire x) = (onMasterRead s).withWire x :=
  ite_withWire rfl (ite_withWire (ite_withWire rfl (ite_withWire rfl
    (submitAt_withWire { observed s with offset := s.offset - 8#11 } x _))) rfl)

theorem decodeState_withWire : decodeState (s.withWire x) = (decodeState s).withWire x := by
  have hphase : (s.withWire x).phase = s.phase := rfl
  unfold decodeState
  rw [hphase]
  cases s.phase with
  | readKey => exact ite_withWire rfl rfl
  | getReadLength | getWriteLength | masterWrite => exact ite_withWire (ite_withWire rfl rfl) rfl
  | masterRead => exact onMasterRead_withWire s x

/-- A tick neither reads nor writes the wire (R150, R151). -/
theorem decoderTick_withWire : decoderTick (s.withWire x) = (decoderTick s).withWire x := by
  have hevt : (s.withWire x).evt = s.evt := rfl
  unfold decoderTick
  rw [service_withWire, hevt]
  unfold decodePart
  refine ite_withWire rfl ?_
  cases s.evt with
  | none => exact decodeState_withWire _ x
  | readReq => exact submitAt_withWire { service s with evt := .none, phase := .masterRead, rdLast := false } x _
  | writeDone => rfl

end

/-! ### Two ticks with nothing more to come between them -/

/-- A ready state in which no flag shows work: a tick changes nothing (R164). -/
structure Settled (s : State) : Prop extends Ready s where
  noWord : rxNew s = false
  noAcceptance : txNew s = false

/-- The two ticks that the host leaves after a link event (R316). -/
def settle (s : State) : State := decoderTick (decoderTick s)

section

variable {s t : State}

theorem Settled.withWire (h : Settled s) (x : Wire) : Settled (s.withWire x) := { h with }

/-- A settled state waits (R164). -/
theorem decoderTick_settled (h : Settled s) : decoderTick s = s := by
  rw [decoderTick_of_ready h.toReady, decodeState_noWork h.noWord h.noAcceptance]

theorem settle_of_decoderTick (h : decoderTick s = t) (ht : Settled t) : settle s = t := by
  rw [settle, h, decoderTick_settled ht]

theorem settle_settled (h : Settled s) : settle s = s := settle_of_decoderTick (decoderTick_settled h) h

theorem settle_withWire (s : State) (x : Wire) : settle (s.withWire x) = (settle s).withWire x := by
  rw [settle, decoderTick_withWire, decoderTick_withWire, settle]

/-- A tick raises the pulse of `global_reset` only where it services a write (R193). -/
theorem decoderTick_globalReset (he : s.evt ≠ .writeDone) : (decoderTick s).globalReset = false := by
  obtain ⟨g, b, r, ps, d, hs, -, -, hg, -⟩ := service_eq s
  obtain ⟨w, v, p, k, len, o, b', rs, ts, e, l, d', hd, -⟩ := decodePart_eq s.evt (service s)
  rw [decoderTick, hd, hs]
  exact (hg he).1

end

/-! ### Runs, and what the host sees of them -/

/-- `n` steps take `s` to `t`, and the host sees these bits of them. -/
def Shows (n : Nat) (s : State) (bits : List Bool) (t : State) : Prop :=
  Host.Core.run Sys2Proof.core n s = .next t ∧ hostSees n s = bits

section

variable {s t u : State} {m n : Nat} {bits more : List Bool}

theorem hostSees_of_step (n : Nat) (h : step s = .next t) :
    hostSees (n + 1) s = (if s.inputs.head? = some .rise then [t.linkOut] else []) ++ hostSees n t := by
  simp only [hostSees, h]

/-- A `Rise` shows the host the bit driven. -/
theorem shows_of_rise {rest : List Input} (hin : s.inputs = .rise :: rest) (h : step s = .next t) :
    Shows 1 s [t.linkOut] t :=
  ⟨run_of_step 0 h, by simp [hostSees, h, hin]⟩

/-- Any other event shows it nothing. -/
theorem shows_of_other {e : Input} {rest : List Input} (hin : s.inputs = e :: rest) (he : e ≠ .rise)
    (h : step s = .next t) : Shows 1 s [] t :=
  ⟨run_of_step 0 h, by simp [hostSees, h, hin, he]⟩

/-- Runs compose, by induction on the first. -/
theorem Shows.trans (h : Shows m s bits t) (h' : Shows n t more u) : Shows (m + n) s (bits ++ more) u := by
  induction m generalizing s bits with
  | zero =>
    obtain ⟨hrun, rfl⟩ := h
    cases hrun
    simpa [hostSees] using h'
  | succ m ih =>
    obtain ⟨hrun, rfl⟩ := h
    rw [Nat.succ_add]
    cases hstep : step s with
    | next v =>
      rw [run_of_step m hstep] at hrun
      obtain ⟨hrun', hsees⟩ := ih ⟨hrun, rfl⟩
      refine ⟨(run_of_step _ hstep).trans hrun', ?_⟩
      rw [hostSees_of_step _ hstep, hostSees_of_step _ hstep, hsees, List.append_assoc]
    | fault r => cases r
    | refused r =>
      have hcore : Sys2Proof.core.step s = .refused r := hstep
      simp only [Host.Core.run, hcore] at hrun
      cases hrun

end

/-! ### One link event and its two ticks -/

/-- The wire after a bit has been driven (R124). -/
def Wire.driven (x : Wire) : Wire :=
  { x with linkOut := x.txShift.msb, txShift := shiftOut x.txShift, txCnt := x.txCnt + 1#3 }

/-- The wire after a bit has been sampled (R123). -/
def Wire.sampled (b : Bool) (x : Wire) : Wire := { x with rxShift := shiftIn x.rxShift b, rxCnt := x.rxCnt + 1#3 }

/-- The same wire with other events to come. -/
def Wire.await (rest : List Input) (x : Wire) : Wire := { x with inputs := rest }

/-- The state with a received Word pending (R123, R128). -/
def arrived (w : Word) (s : State) : State := { s with rxWord := w, rxToggle := !s.rxToggle }

section

variable {s : State} {x : Wire} {b : Bool} {rest : List Input}

/-- `Rise` on a selected link, whatever comes after it (R124). -/
theorem shows_rise (hd : s.linkDesel = false) (hin : s.inputs = .rise :: rest) :
    Shows 1 s [(latched s).txShift.msb] ((latched s).withWire ((latched s).wire.driven.await rest)) := by
  have hrise : onRise { s with inputs := rest } = (latched s).withWire ((latched s).wire.driven.await rest) := by
    rw [onRise_withInputs, onRise_selected hd]
    rfl
  exact shows_of_rise hin ((step_rise hin).trans (congrArg _ hrise))

/-- `Fall` of a bit before the eighth on a selected link (R123). -/
theorem shows_fall_earlier (hd : s.linkDesel = false) (h7 : x.rxCnt ≠ 7#3) (hin : x.inputs = .fall b :: rest) :
    Shows 1 (s.withWire x) [] (s.withWire ((x.sampled b).await rest)) := by
  have hfall : onFall b (s.withWire (x.await rest)) = s.withWire ((x.sampled b).await rest) :=
    onFall_earlier b hd h7
  exact shows_of_other hin nofun ((step_fall hin).trans (congrArg _ hfall))

/-- `Fall` of the eighth bit on a selected link (R123). -/
theorem shows_fall_eighth (hd : s.linkDesel = false) (h7 : x.rxCnt = 7#3) (hin : x.inputs = .fall b :: rest) :
    Shows 1 (s.withWire x) [] ((arrived (shiftIn x.rxShift b) s).withWire ((x.sampled b).await rest)) := by
  have hfall : onFall b (s.withWire (x.await rest)) =
      (arrived (shiftIn x.rxShift b) s).withWire ((x.sampled b).await rest) := by
    rw [onFall_eighth (s := s.withWire (x.await rest)) b hd h7, Wire.sampled, h7]
    rfl
  exact shows_of_other hin nofun ((step_fall hin).trans (congrArg _ hfall))

/-- A tick without `global_reset` (R150, R151). -/
theorem shows_tick (hg : s.globalReset = false) (hin : x.inputs = .tick :: rest) :
    Shows 1 (s.withWire x) [] ((decoderTick s).withWire (x.await rest)) := by
  have hin' : (s.withWire x).inputs = .tick :: rest := hin
  refine shows_of_other hin' nofun ?_
  rw [← decoderTick_withWire, step, hin']
  exact tickIsTheStepFunction (s.withWire (x.await rest)) hg

/-- The two ticks after a link event (R316). -/
theorem shows_settle (h : Ready s) (hin : x.inputs = .tick :: .tick :: rest) :
    Shows 2 (s.withWire x) [] ((settle s).withWire (x.await rest)) :=
  have hg : (decoderTick s).globalReset = false := decoderTick_globalReset (by simp [h.noEvent])
  (shows_tick h.noPulse hin).trans (shows_tick (x := x.await (.tick :: rest)) hg rfl)

end

/-! ### One clock period and its four ticks -/

section

variable {s : State} {b : Bool} {rest : List Input}

/-- Latching leaves the bits received of the slot and the decoder as they were (R124). -/
theorem latched_wire (s : State) :
    (latched s).rxShift = s.rxShift ∧ (latched s).rxCnt = s.rxCnt ∧ (latched s).txCnt = s.txCnt := by
  obtain ⟨sh, v, tg, d, h⟩ := latched_eq s
  rw [h]
  exact ⟨rfl, rfl, rfl⟩

theorem Ready.latched (h : Ready s) : Ready (latched s) := by
  obtain ⟨sh, v, tg, d, e⟩ := latched_eq s
  rw [e]
  exact { h with }

theorem Ready.arrived (h : Ready s) (w : Word) : Ready (arrived w s) := { h with }

/-- The wire after a clock period in which `b` was sampled (R130). -/
def State.wireAfter (s : State) (b : Bool) (rest : List Input) : Wire :=
  { linkOut := (latched s).txShift.msb, txShift := shiftOut (latched s).txShift, txCnt := s.txCnt + 1#3
    rxShift := shiftIn s.rxShift b, rxCnt := s.rxCnt + 1#3, inputs := rest }

/-- The wire after a bit driven and a bit sampled, in the order of the events. -/
theorem wireAfter_eq (s : State) (b : Bool) (rest : List Input) :
    ((latched s).wire.driven.sampled b).await rest = s.wireAfter b rest := by
  obtain ⟨hsh, hrx, htx⟩ := latched_wire s
  rw [State.wireAfter, ← hsh, ← hrx, ← htx]
  rfl

/-- What `Rise` and its ticks leave to the rest of a clock period (R130). -/
theorem shows_rise_settle {more : List Input} (h : Ready s) (hin : s.inputs = .rise :: .tick :: .tick :: more) :
    Shows 3 s [(latched s).txShift.msb] ((settle (latched s)).withWire ((latched s).wire.driven.await more)) :=
  (shows_rise h.selected hin).trans
    (shows_settle (x := (latched s).wire.driven.await (.tick :: .tick :: more)) h.latched rfl)

/-- A clock period before the last of a slot, in which the decoder can see at most an acceptance (R123, R124, R130). -/
theorem shows_wireBit_earlier (h : Ready s) (ha : Settled (settle (latched s))) (h7 : s.rxCnt ≠ 7#3)
    (hin : s.inputs = wireBit 2 b ++ rest) :
    Shows 6 s [(latched s).txShift.msb] ((settle (latched s)).withWire (s.wireAfter b rest)) := by
  obtain ⟨-, hrx, -⟩ := latched_wire s
  have hrise := shows_rise_settle (more := .fall b :: .tick :: .tick :: rest) h hin
  have hfall := shows_fall_earlier (x := (latched s).wire.driven.await (.fall b :: .tick :: .tick :: rest))
    ha.selected (hrx.trans_ne h7) rfl
  have hticks := shows_settle (x := ((latched s).wire.driven.sampled b).await (.tick :: .tick :: rest)) ha.toReady rfl
  rw [settle_settled ha] at hticks
  rw [← wireAfter_eq]
  exact (hrise.trans hfall).trans hticks

/-- The last clock period of a slot, whose Word the decoder then sees (R123, R124, R130). -/
theorem shows_wireBit_last (h : Ready s) (ha : Ready (settle (latched s))) (h7 : s.rxCnt = 7#3)
    (hin : s.inputs = wireBit 2 b ++ rest) :
    Shows 6 s [(latched s).txShift.msb]
      ((settle (arrived (shiftIn s.rxShift b) (settle (latched s)))).withWire (s.wireAfter b rest)) := by
  obtain ⟨hsh, hrx, -⟩ := latched_wire s
  have hrise := shows_rise_settle (more := .fall b :: .tick :: .tick :: rest) h hin
  have hfall := shows_fall_eighth (x := (latched s).wire.driven.await (.fall b :: .tick :: .tick :: rest))
    ha.selected (hrx.trans h7) rfl
  have hticks := shows_settle (x := ((latched s).wire.driven.sampled b).await (.tick :: .tick :: rest))
    (ha.arrived (shiftIn s.rxShift b)) rfl
  rw [← wireAfter_eq]
  rw [← hsh] at hticks ⊢
  exact (hrise.trans hfall).trans hticks

end

/-! ### A slot -/

/-- The wire at the end of a slot in which `w` was received: both counters at the Word boundary (R130). -/
def Wire.ended (w : Word) (rest : List Input) (out : Bool) (sent : Word) : Wire :=
  { linkOut := out, rxShift := w, rxCnt := 0#3, txShift := sent, txCnt := 0#3, inputs := rest }

/-- A clock period before the last leaves one bit less to come, and is no longer the first (R130). -/
theorem toCome_wireAfter {s a : State} {n : Nat} (h : ToCome (n + 2) s) (hd : a.linkDesel = false) (b : Bool)
    (rest : List Input) :
    ToCome (n + 1) (a.withWire (s.wireAfter b rest)) ∧
      latched (a.withWire (s.wireAfter b rest)) = a.withWire (s.wireAfter b rest) ∧ s.rxCnt ≠ 7#3 := by
  have hleft := h.left
  have hcount : (s.txCnt + 1#3).toNat = s.txCnt.toNat + 1 := by
    rw [BitVec.toNat_add, BitVec.toNat_ofNat]
    omega
  refine ⟨⟨hd, congrArg (· + 1#3) h.together, hcount ▸ (by omega)⟩, latched_later fun h0 => ?_, fun h7 => ?_⟩
  · have hzero : (s.txCnt + 1#3).toNat = 0 := congrArg BitVec.toNat h0
    omega
  · rw [← h.together, h7, BitVec.toNat_ofNat] at hleft
    omega

/-- What is left of a slot, by induction on its bits: the host sees as many bits of the Word latched, and the decoder
sees first what was latched, then the Word received (R130, R134, R316). -/
theorem shows_bits (rest : List Input) (bits : List Bool) (s : State) (hs : Ready s)
    (ha : Settled (settle (latched s))) (h : ToCome bits.length s)
    (hin : s.inputs = bits.flatMap (wireBit 2) ++ rest) :
    ∃ (out : Bool) (sent : Word), Shows (6 * bits.length) s ((wireOrder (latched s).txShift).take bits.length)
      ((settle (arrived (bits.foldl shiftIn s.rxShift) (settle (latched s)))).withWire
        (Wire.ended (bits.foldl shiftIn s.rxShift) rest out sent)) := by
  induction bits generalizing s with
  | nil =>
    have hfull : s.txCnt.toNat = 8 := h.left
    omega
  | cons b more ih =>
    have hleft : s.txCnt.toNat + (more.length + 1) = 8 := h.left
    have hsplit : s.inputs = wireBit 2 b ++ (more.flatMap (wireBit 2) ++ rest) := by
      rw [hin, List.flatMap_cons, List.append_assoc]
    rw [List.length_cons, Nat.mul_succ, Nat.add_comm, take_wireOrder_succ _ (by omega), List.foldl_cons]
    cases more with
    | nil =>
      have h7 : s.txCnt = 7#3 := BitVec.eq_of_toNat_eq (Nat.add_right_cancel hleft)
      have hlast := shows_wireBit_last hs ha.toReady (h.together.trans h7) hsplit
      rw [State.wireAfter, h.together, h7] at hlast
      exact ⟨_, _, hlast⟩
    | cons b' more =>
      let a := settle (latched s)
      let x := s.wireAfter b ((b' :: more).flatMap (wireBit 2) ++ rest)
      obtain ⟨hcome, hlater, h7⟩ := toCome_wireAfter (n := more.length) h ha.selected b x.inputs
      have hfirst := shows_wireBit_earlier hs ha h7 hsplit
      have hnext : Settled (a.withWire x) := ha.withWire x
      have hlatched : latched (a.withWire x) = a.withWire x := hlater
      obtain ⟨out, sent, hrest⟩ := ih (a.withWire x) hnext.toReady
        (by rw [hlatched, settle_settled hnext]; exact hnext) hcome rfl
      have hword (w : Word) : settle (arrived w (a.withWire x)) = (settle (arrived w a)).withWire x :=
        settle_withWire (arrived w a) x
      rw [hlatched, settle_settled hnext, hword] at hrest
      exact ⟨out, sent, hfirst.trans hrest⟩

/-- Between two Words: settled, at a Word boundary in both directions (R130). -/
structure Boundary (s : State) : Prop extends Settled s where
  rxBoundary : s.rxCnt = 0#3
  txBoundary : s.txCnt = 0#3

/-- The slots of some Words are those of the first and of the others (R90). -/
theorem wireWords_cons (k : Nat) (w : Word) (words : List Word) :
    wireWords k (w :: words) = (wireOrder w).flatMap (wireBit k) ++ wireWords k words := by
  simp [wireWords]

/-- A whole slot shows the host the Word latched; the decoder sees first what was latched, then the Word received (R130,
R134, R316). -/
theorem shows_slot {s : State} {w : Word} {words : List Word} {rest : List Input} (h : Boundary s)
    (ha : Settled (settle (latched s))) (hin : s.inputs = wireWords 2 (w :: words) ++ rest) :
    ∃ (out : Bool) (sent : Word), Shows 48 s (wireOrder (latched s).txShift)
      ((settle (arrived w (settle (latched s)))).withWire (Wire.ended w (wireWords 2 words ++ rest) out sent)) := by
  have hcome : ToCome (wireOrder w).length s := ⟨h.selected, h.rxBoundary.trans h.txBoundary.symm,
    by rw [h.txBoundary]; rfl⟩
  rw [wireWords_cons, List.append_assoc] at hin
  obtain ⟨out, sent, hshows⟩ := shows_bits _ (wireOrder w) s h.toReady ha hcome hin
  rw [foldl_shiftIn_wireOrder] at hshows
  exact ⟨out, sent, hshows⟩

end Sys2Proof.Machine
end

section
/-! SUPPORT. A read frame over the wire: what FrameDecoder makes of the key, the length and the Words after them, and
what the host sees meanwhile (41_frame_decoder R152, R153, R156, R158, R159). -/

namespace Sys2Proof.Machine

/-! ### What FrameDecoder makes of a Word -/

section

variable {s t : State}

/-- What a statement says of a tick, it says of the step function of R151. -/
theorem decoderTick_of_tick (hg : s.globalReset = false) (h : tick s = .next t) : decoderTick s = t :=
  Host.Outcome.next.inj ((tickIsTheStepFunction s hg).symm.trans h)

/-- A ready state that has observed both flags is settled (R29). -/
theorem Ready.settled (h : Ready s) (hrx : s.rxSeen = s.rxToggle) (htx : s.txSeen = s.txToggle) : Settled s :=
  { h with
    noWord := by rw [rxNew, hrx, bne_self_eq_false]
    noAcceptance := by rw [txNew, htx, bne_self_eq_false] }

/-- A Word that arrives when none was pending is pending (R24, R128). -/
theorem rxNew_arrived (w : Word) (h : rxNew s = false) : rxNew (arrived w s) = true := by
  have hrx : s.rxToggle = s.rxSeen := by simpa [rxNew] using h
  simp [rxNew, arrived, hrx]

/-- A key Word with bit 7 = 0 opens a read frame (R152). -/
theorem settle_arrived_readKey (h : Settled s) {key : Word} (hp : s.phase = .readKey) (hk : isWriteKey key = false) :
    settle (arrived key s) = { observed (arrived key s) with key := key, phase := .getReadLength } := by
  refine settle_of_decoderTick ?_ (Ready.settled ⟨h.selected, h.noEvent, h.noPulse⟩ rfl rfl)
  have hword : isWriteKey (arrived key s).rxWord = false := hk
  rw [decoderTick_of_ready (h.toReady.arrived key),
    decodeState_readKey (s := arrived key s) hp (rxNew_arrived key h.noWord), onKeyWord, hword]
  rfl

/-- A length Word of a read, its read-request and the service of it: the first value byte is queued (R153, R156, R193).
-/
theorem settle_arrived_readLength (h : Settled s) {len : Word} (hp : s.phase = .getReadLength) (hl : len ≠ 0#8) :
    ∃ (w : Word) (d : Nat), settle (arrived len s) =
      { observed (arrived len s) with
        length := len, offset := offsetOf len, vbuf := putWindow s.vbuf len.toNat (readValue s s.key)
        phase := .masterRead, evt := .none, rdLast := false, txPending := w, txPendingValid := true
        globalReset := false, draws := d } ∧
      Settled (settle (arrived len s)) ∧
      (len.toNat ≤ 8 → w = byteAt (putWindow s.vbuf len.toNat (readValue s s.key)) (8 * (len.toNat - 1))) := by
  let t : State := { observed (arrived len s) with length := len, offset := offsetOf len, evt := .readReq }
  have hrequest : decoderTick (arrived len s) = t := by
    rw [decoderTick_of_ready (h.toReady.arrived len),
      decodeState_getReadLength (s := arrived len s) hp (rxNew_arrived len h.noWord)]
    exact if_neg hl
  obtain ⟨w, d, hframe, hbyte⟩ := readFrame_selected s.key len (readValue s s.key) t h.selected hl
  rw [settle, hrequest, ← readFrame_eq_decoderTick t rfl hl rfl]
  have hframe : readFrame t.key t.length (readValue t t.key) t = _ := hframe
  rw [hframe]
  exact ⟨w, d, rfl, Ready.settled ⟨h.selected, rfl, rfl⟩ rfl rfl, fun h8 => (hbyte h8).2⟩

/-- A Word received while the value goes out is dropped, and ends the frame after the last byte (R159). -/
theorem settle_arrived_masterRead (h : Settled s) (w : Word) (hp : s.phase = .masterRead) :
    settle (arrived w s) =
      { observed (arrived w s) with phase := if s.rdLast then .readKey else .masterRead, rdLast := false } := by
  refine settle_of_decoderTick ?_ (Ready.settled ⟨h.selected, h.noEvent, h.noPulse⟩ rfl rfl)
  exact decoderTick_of_tick h.noPulse (wordEndsAReadFrame (arrived w s) h.noPulse h.selected h.noEvent hp
    (rxNew_arrived w h.noWord) h.noAcceptance)

end

/-! ### The slots of the key and the length -/

/-- A slot with nothing queued shows the host any Word, and gives the decoder only the Word received (R124, R133). -/
theorem shows_slot_unqueued {s : State} {w : Word} {words : List Word} {rest : List Input} (h : Boundary s)
    (hq : s.txPendingValid = false) (hin : s.inputs = wireWords 2 (w :: words) ++ rest) :
    ∃ (bits : List Bool) (out : Bool) (sent : Word), bits.length = 8 ∧
      Shows 48 s bits ((settle (arrived w { s with draws := s.draws + 1 })).withWire
        (Wire.ended w (wireWords 2 words ++ rest) out sent)) := by
  have ha : Settled (latched s) := by
    rw [latched_unqueued h.txBoundary hq]
    exact { h with }
  obtain ⟨out, sent, hshows⟩ := shows_slot h (by rwa [settle_settled ha]) hin
  let u : State := { s with draws := s.draws + 1 }
  have hlatched : latched s = u.withWire (latched s).wire := by
    rw [latched_unqueued h.txBoundary hq]
    rfl
  have hword : settle (arrived w (latched s)) = (settle (arrived w u)).withWire (latched s).wire := by
    rw [← settle_withWire]
    exact congrArg (fun v => settle (arrived w v)) hlatched
  rw [settle_settled ha, hword] at hshows
  exact ⟨_, out, sent, rfl, hshows⟩

/-- A Word boundary in `MasterRead` at which the value byte with `m` bytes below it is queued (R158). -/
structure Sending (m : Nat) (s : State) : Prop extends Boundary s where
  masterRead : s.phase = .masterRead
  notLast : s.rdLast = false
  inBuffer : m < 8
  position : s.offset.toNat = 8 * m
  queued : s.txPendingValid = true
  byte : s.txPending = byteAt s.vbuf (8 * m)

/-- After the key and the length of a read frame the first value byte is queued, and the host has seen two Words (R152,
R153, R156, R317). -/
theorem shows_header {s : State} {key len : Word} {filler : List Word} {rest : List Input} (h : Idle s)
    (hk : isWriteKey key = false) (h1 : 1 ≤ len.toNat) (h8 : len.toNat ≤ 8)
    (hin : s.inputs = wireWords 2 (key :: len :: filler) ++ rest) :
    ∃ (bits : List Bool) (t : State), bits.length = 16 ∧ Shows 96 s bits t ∧ Sending (len.toNat - 1) t ∧
      t.inputs = wireWords 2 filler ++ rest ∧ t.vbuf = putWindow s.vbuf len.toNat (readValue s key) ∧
      t.key = key ∧ t.length = len ∧ t.regs = s.regs ∧ t.platform = s.platform := by
  have hl : len ≠ 0#8 := by
    rintro rfl
    exact absurd h1 (by decide)
  have hs : Boundary s := { h with }
  obtain ⟨bits, out, sent, hbits, hkey⟩ := shows_slot_unqueued hs h.emptyQueue hin
  let u : State := { s with draws := s.draws + 1 }
  rw [settle_arrived_readKey (s := u) { hs with } h.readKey hk] at hkey
  let t : State := State.withWire { observed (arrived key u) with key := key, phase := .getReadLength }
    (Wire.ended key (wireWords 2 (len :: filler) ++ rest) out sent)
  have ht : Boundary t :=
    { Ready.settled (s := t) ⟨h.selected, h.noEvent, h.noPulse⟩ rfl rfl with rxBoundary := rfl, txBoundary := rfl }
  obtain ⟨bits', out', sent', hbits', hlen⟩ := shows_slot_unqueued ht h.emptyQueue rfl
  let v : State := { t with draws := t.draws + 1 }
  obtain ⟨w, d, hframe, hsettled, hbyte⟩ := settle_arrived_readLength (s := v) { ht with } rfl hl
  rw [hframe] at hlen hsettled
  refine ⟨bits ++ bits', _, by rw [List.length_append, hbits, hbits'], hkey.trans hlen, ?_,
    rfl, rfl, rfl, rfl, rfl, rfl⟩
  exact { hsettled.withWire _ with
    rxBoundary := rfl, txBoundary := rfl, masterRead := rfl, notLast := rfl, queued := rfl
    inBuffer := by omega
    position := offsetOf_toNat len hl
    byte := hbyte h8 }

/-! ### The slots of the value -/

/-- What the sending of a value leaves alone (R69, R158). -/
structure SameFrame (s t : State) : Prop where
  key : t.key = s.key
  length : t.length = s.length
  vbuf : t.vbuf = s.vbuf
  regs : t.regs = s.regs
  platform : t.platform = s.platform

theorem SameFrame.trans {s t u : State} (h : SameFrame s t) (h' : SameFrame t u) : SameFrame s u :=
  ⟨h'.key.trans h.key, h'.length.trans h.length, h'.vbuf.trans h.vbuf, h'.regs.trans h.regs,
    h'.platform.trans h.platform⟩

section

variable {s : State} {m : Nat}

/-- The first bit of a value byte is its acceptance (R124, R158). -/
theorem decoderTick_latched_sending (h : Sending m s) : decoderTick (latched s) = onAcceptance (latched s) := by
  have htx : s.txToggle = s.txSeen := by simpa [txNew] using h.noAcceptance
  rw [decoderTick_of_ready h.toReady.latched, latched_queued h.txBoundary h.queued,
    decodeState_masterRead (by exact h.masterRead)]
  exact onMasterRead_acceptance h.notLast (by simp [txNew, htx])

/-- The acceptance of the last byte (R158). -/
theorem settle_latched_last (h : Sending 0 s) :
    settle (latched s) = { observed (latched s) with rdLast := true } ∧ Settled (settle (latched s)) := by
  have hv := latched_queued h.txBoundary h.queued
  have hlast : decoderTick (latched s) = { observed (latched s) with rdLast := true } := by
    rw [decoderTick_latched_sending h]
    exact onAcceptance_last (by rw [hv]; exact h.notLast) (by rw [hv]; exact BitVec.eq_of_toNat_eq h.position)
  have hdone : Settled { observed (latched s) with rdLast := true } :=
    Ready.settled { h.toReady.latched with } rfl rfl
  rw [settle_of_decoderTick hlast hdone]
  exact ⟨rfl, hdone⟩

/-- The acceptance of any byte before it queues the next one (R158). -/
theorem settle_latched_next (h : Sending (m + 1) s) : ∃ (o : Offset) (d : Nat), o.toNat = 8 * m ∧
    settle (latched s) = { observed (latched s) with
      offset := o, txPending := byteAt s.vbuf (8 * m), txPendingValid := true, draws := d } ∧
    Settled (settle (latched s)) := by
  have hv := latched_queued h.txBoundary h.queued
  have hpos := h.position
  have hin := h.inBuffer
  have ho : s.offset ≠ 0#11 := by
    intro e
    rw [e, BitVec.toNat_ofNat] at hpos
    omega
  have hsub := toNat_sub_byte (o := s.offset) (by omega) ho
  have ho' : (s.offset - 8#11).toNat = 8 * m := by omega
  have hready := h.toReady.latched
  obtain ⟨b, d, hnext, hbyte⟩ := onAcceptance_next (s := latched s) hready.selected (by rw [hv]; exact h.notLast)
    (by rw [hv]; exact ho)
  have hoff : (latched s).offset = s.offset := by rw [hv]
  have hbuf : (latched s).vbuf = s.vbuf := by rw [hv]
  rw [hoff, hbuf, ho'] at hbyte
  obtain ⟨-, rfl⟩ := hbyte (by omega)
  rw [← decoderTick_latched_sending h, hoff] at hnext
  rw [settle_of_decoderTick hnext (Ready.settled { hready with } rfl rfl)]
  exact ⟨s.offset - 8#11, d, ho', rfl, Ready.settled { hready with } rfl rfl⟩

/-- A slot of the value shows the host the byte queued, and the decoder drops the Word received (R158, R159, R166). -/
theorem shows_byte {w : Word} {words : List Word} {rest : List Input} (h : Sending m s)
    (ha : Settled (settle (latched s))) (hp : (settle (latched s)).phase = .masterRead)
    (hin : s.inputs = wireWords 2 (w :: words) ++ rest) :
    ∃ (out : Bool) (sent : Word), Shows 48 s (wireOrder (byteAt s.vbuf (8 * m)))
      (State.withWire
        { observed (arrived w (settle (latched s))) with
          phase := if (settle (latched s)).rdLast then .readKey else .masterRead, rdLast := false }
        (Wire.ended w (wireWords 2 words ++ rest) out sent)) := by
  obtain ⟨out, sent, hshows⟩ := shows_slot h.toBoundary ha hin
  have hbyte : (latched s).txShift = byteAt s.vbuf (8 * m) := by
    rw [latched_queued h.txBoundary h.queued]
    exact h.byte
  rw [settle_arrived_masterRead ha w hp, hbyte] at hshows
  exact ⟨out, sent, hshows⟩

end

section

variable {s : State} {m : Nat} {w : Word} {words : List Word} {rest : List Input}

/-- The slot of the last value byte ends the frame (R158, R159, R319). -/
theorem shows_lastByte (h : Sending 0 s) (hin : s.inputs = wireWords 2 (w :: words) ++ rest) :
    ∃ t, Shows 48 s (wireOrder (byteAt s.vbuf 0)) t ∧ t.inputs = wireWords 2 words ++ rest ∧ Idle t ∧
      SameFrame s t := by
  obtain ⟨hlast, ha⟩ := settle_latched_last h
  have hv := latched_queued h.txBoundary h.queued
  obtain ⟨out, sent, hshows⟩ := shows_byte h ha (by rw [hlast, hv]; exact h.masterRead) hin
  rw [hlast, hv] at hshows
  refine ⟨_, hshows, rfl, ?_, ⟨rfl, rfl, rfl, rfl, rfl⟩⟩
  exact {
    selected := h.selected, readKey := rfl, noEvent := h.noEvent, noWord := bne_self_eq_false _
    noAcceptance := bne_self_eq_false _, rxBoundary := rfl, txBoundary := rfl, emptyQueue := rfl, notLast := rfl
    noPulse := h.noPulse }

/-- The slot of any value byte before it queues the next byte (R158). -/
theorem shows_nextByte (h : Sending (m + 1) s) (hin : s.inputs = wireWords 2 (w :: words) ++ rest) :
    ∃ t, Shows 48 s (wireOrder (byteAt s.vbuf (8 * (m + 1)))) t ∧ t.inputs = wireWords 2 words ++ rest ∧
      Sending m t ∧ SameFrame s t := by
  obtain ⟨o, d, ho, hnext, ha⟩ := settle_latched_next h
  have hv := latched_queued h.txBoundary h.queued
  have hl := h.notLast
  obtain ⟨out, sent, hshows⟩ := shows_byte h ha (by rw [hnext, hv]; exact h.masterRead) hin
  rw [hnext, hv] at hshows
  refine ⟨_, hshows, rfl, ?_, ⟨rfl, rfl, rfl, rfl, rfl⟩⟩
  exact {
    selected := h.selected, noEvent := h.noEvent, noPulse := h.noPulse, noWord := bne_self_eq_false _
    noAcceptance := bne_self_eq_false _, rxBoundary := rfl, txBoundary := rfl
    masterRead := if_neg (by simp [hl])
    notLast := rfl, inBuffer := Nat.lt_of_succ_lt h.inBuffer, position := ho, queued := rfl, byte := rfl }

end

/-- The slots of the last `m + 1` value bytes, by induction on `m`: the host sees them in the order of the wire, and the
machine is idle again (R97, R158, R159, R319). -/
theorem shows_value (rest : List Input) (m : Nat) (filler : List Word) (s : State) (h : Sending m s)
    (hf : filler.length = m + 1) (hin : s.inputs = wireWords 2 filler ++ rest) :
    ∃ t, Shows (48 * (m + 1)) s ((bytesOf s.vbuf (m + 1)).flatMap wireOrder) t ∧ t.inputs = rest ∧ Idle t ∧
      SameFrame s t := by
  induction m generalizing s filler with
  | zero =>
    obtain ⟨w, rfl⟩ := List.length_eq_one_iff.mp hf
    obtain ⟨t, hbyte, hint, hidle, hsame⟩ := shows_lastByte h hin
    exact ⟨t, by simpa [bytesOf] using hbyte, hint, hidle, hsame⟩
  | succ m ih =>
    obtain ⟨w, words, rfl⟩ := List.exists_cons_of_length_eq_add_one hf
    obtain ⟨t, hbyte, hint, ht, hsame⟩ := shows_nextByte h hin
    obtain ⟨u, hmore, hinu, hidle, hsame'⟩ := ih words t ht (Nat.succ_inj.mp hf) hint
    rw [hsame.vbuf] at hmore
    refine ⟨u, ?_, hinu, hidle, hsame.trans hsame'⟩
    rw [Nat.mul_succ, Nat.add_comm, bytesOf, List.flatMap_cons]
    exact hbyte.trans hmore

/-! ### The statement -/

/-- The bytes below `L` are those of the window of `L` bytes (R28, R97). -/
theorem bytesOf_putWindow (v x : Value) (L n : Nat) (hL : L ≤ 8) (hn : n ≤ L) :
    bytesOf (putWindow v L x) n = bytesOf (window x L) n := by
  induction n with
  | zero => rfl
  | succ n ih =>
    have hbyte : byteAt (putWindow v L x) (8 * n) = byteAt (window x L) (8 * n) := by
      apply BitVec.eq_of_getLsbD_eq
      intro b hb
      have hin : 8 * n + b < 8 * L := by omega
      rw [getLsbD_byteAt _ _ _ hb, getLsbD_byteAt _ _ _ hb, getLsbD_putWindow _ _ _ _ (by omega), getLsbD_window]
      simp [hin]
    rw [bytesOf, bytesOf, hbyte, ih (Nat.le_of_succ_le hn)]

/-- Settles O58: two slots for the key and the length, then one slot for each value byte. -/
theorem readFrameOverTheWire : Obligations.ReadFrameOverTheWire := by
  intro s key len filler rest h hk h1 h8 hf hin
  obtain ⟨bits, t, hbits, hheader, ht, hint, hvbuf, hkey, hlen, hregs, hplat⟩ := shows_header h hk h1 h8 hin
  obtain ⟨m, hm⟩ : ∃ m, len.toNat = m + 1 := ⟨len.toNat - 1, by omega⟩
  rw [hm, Nat.add_sub_cancel] at ht
  obtain ⟨u, hvalue, hinu, hidle, hsame⟩ := shows_value rest m filler t ht (hf.trans hm) hint
  rw [hvbuf, hm, bytesOf_putWindow _ _ _ _ (hm ▸ h8) (Nat.le_refl _)] at hvalue
  obtain ⟨hrun, hsees⟩ := hheader.trans hvalue
  have hsteps : 48 * (2 + len.toNat) = 96 + 48 * (m + 1) := by omega
  refine ⟨u, by rw [hsteps, hrun], hinu, ?_, hidle, hsame.key.trans hkey, hsame.length.trans hlen,
    hsame.regs.trans hregs, hsame.platform.trans hplat⟩
  rw [hsteps, hsees, List.drop_left' hbits, hm, memRead]

end Sys2Proof.Machine
end

section
/-! SUPPORT. RegisterDispatch: what `MemRead` finds under a key and `MemWrite` leaves behind it, whatever the frame's
length, and what agent P makes a read find (42_register_dispatch R180 to R196). -/

namespace Sys2Proof.Machine

/-! ### Meanings and the table -/

/-- A read frame is what the decoder makes of its key and length (R94, R99). -/
theorem decodeRead_of_readWords {i : Instr} {len : Word} (hw : i.wellFormed = true) (hk : isWriteKey i.key = false)
    (he : encode i = readWords i.key len) : decodeRead i.key len = i := by
  obtain ⟨-, len', he', hi⟩ | ⟨hk', -⟩ := Laws.FrameEncoding.statement_holds i hw
  · obtain rfl : len = len' := by simpa [readWords] using he.symm.trans he'
    exact hi
  · exact absurd (hk.symm.trans hk') Bool.false_ne_true

/-- `MemWrite` reads only the window of the value (R186, R193). -/
theorem memWrite_window (key : Word) (L : Nat) (v : Value) : memWrite key L (window v L) = memWrite key L v := by
  funext s
  simp only [memWrite, writtenPattern_window]

/-- Settles O50: a well-formed frame is the row that its key selects, and every row goes through the table. -/
theorem meaningsFollowTheTable : Obligations.MeaningsFollowTheTable := by
  intro i s hw
  refine ⟨fun len hk he => ?_, fun value hk he => ?_⟩
  · rw [← exec_decodeRead i.key len s hk, decodeRead_of_readWords hw hk he]
  · rw [memWrite_window, exec_of_isWriteFrame ⟨hw, hk, he⟩ s]

/-! ### Reads that miss -/

/-- A key that no entry makes readable answers with the sentinel (R182). -/
theorem readValue_of_miss {s : State} {key : Word}
    (h : s.entry key = none ∨ ∃ e, s.entry key = some e ∧ e.direction = .writeOnly) :
    readValue s key = Config.sentinel := by
  obtain hn | ⟨e, he, hd⟩ := h
  · simp only [readValue, hn]
  · have hr : e.direction.readable = false := by rw [hd, Direction.readable]
    simp only [readValue, he, hr, if_neg Bool.false_ne_true]

/-- The bytes of a window are those of the value that it was cut from (R63, R97). -/
theorem bytesOf_window (v : Value) {L : Nat} (h : L ≤ 8) : bytesOf (window v L) L = bytesOf v L := by
  have hbytes := bytesOf_valueOf_append [] (bytesOf v L) ((length_bytesOf v L).trans_le h)
  rwa [List.nil_append, length_bytesOf, valueOf_bytesOf] at hbytes

/-- The sentinel's bytes in the order of the wire (R182). -/
def sentinelBytes : List Word := [0xDE#8, 0xAD#8, 0xBE#8, 0xEF#8, 0xBA#8, 0xAD#8, 0xF0#8, 0x0D#8]

theorem valueOf_sentinelBytes : valueOf sentinelBytes = Config.sentinel := by decide

/-- A read that misses gives the last bytes of the sentinel, as many as its length (R97, R182). -/
theorem bytesOf_memRead_of_miss {s : State} {key : Word} {L : Nat} (hmiss : readValue s key = Config.sentinel)
    (h : L ≤ 8) : bytesOf (memRead s key L) L = sentinelBytes.drop (8 - L) := by
  have hlast : (sentinelBytes.drop (8 - L)).length = L := (List.length_drop ..).trans (Nat.sub_sub_self h)
  have hbytes := bytesOf_valueOf_append (sentinelBytes.take (8 - L)) (sentinelBytes.drop (8 - L)) (hlast.trans_le h)
  rw [List.take_append_drop, hlast] at hbytes
  rw [memRead, bytesOf_window _ h, hmiss, ← valueOf_sentinelBytes, hbytes]

/-- Settles O52: the window of a miss is the sentinel's, bit by bit and byte by byte. -/
theorem sentinelBytesByLength : Obligations.SentinelBytesByLength := by
  intro s key hentry
  have hmiss := readValue_of_miss hentry
  have hbytes {L : Nat} (h : L ≤ 8) := bytesOf_memRead_of_miss hmiss h
  refine ⟨fun L j _ => ?_, hbytes (by decide), hbytes (by decide), hbytes (by decide), hbytes (by decide),
    hbytes (by decide), hbytes (by decide), hbytes (by decide), hbytes (by decide)⟩
  rw [memRead, hmiss, getLsbD_window, Bool.and_comm, Config.sentinel]

/-- Settles O36: the default read row is served with the sentinel. -/
theorem unknownReadsAnswerTheSentinel : Obligations.UnknownReadsAnswerTheSentinel := by
  intro s key len hd hl hp
  have hmiss : unlistedValue s key = Config.sentinel := by simp only [unlistedValue, hp]
  exact readServed_of_exec (congrArg (fun x => Host.Outcome.next (readFrame key len x s)) hmiss) hd hl

/-! ### Write frames of any length -/

/-- To show what completes it is enough to name the next state and to show its properties. -/
theorem completes_of_next {r : Result} {t : State} {P : State → Prop} (h : r = .next t) (ht : P t) : completes r P :=
  ⟨t, h, ht⟩

/-- A value that has bytes, as FrameDecoder has received it (R96, R155). -/
theorem received_of_ne_nil (key : Word) {value : List Word} (s : State) (hv : value ≠ []) :
    received key value s = { s with
      key := key, length := BitVec.ofNat 8 value.length, globalReset := false
      vbuf := putWindow s.vbuf value.length (valueOf value), offset := 0#11 } :=
  if_neg (by simpa using hv)

/-- Reception does not touch the added entries (R96, R155). -/
@[simp] theorem received_platformEntry (key other : Word) (value : List Word) (s : State) :
    (received key value s).platformEntry other = s.platformEntry other := by
  simp only [State.platformEntry, received_platform]

/-- A window of 8 bytes or more is the whole buffer (R28, R103). -/
theorem putWindow_full (v x : Value) {L : Nat} (h : 8 ≤ L) : putWindow v L x = x := by
  apply BitVec.eq_of_getLsbD_eq
  intro j hj
  rw [getLsbD_putWindow v x L j hj, if_pos (by omega)]

/-- A selected write frame whose effect is a new register file is served with that register file (R157, R187, R193). -/
theorem writeServed_of_exec {i : Instr} {key : Word} {value : List Word} {effect : State → State} {regs : Registers}
    {s : State} (h : exec i s = .next (writeFrame key value effect s)) (hd : s.linkDesel = false) (hv : value ≠ [])
    (he : effect (received key value s) = { received key value s with regs := regs }) :
    writeServed i key value regs s := by
  rw [writeFrame_selected _ _ _ _ (by rw [he]; exact (received_linkDesel key value s).trans hd) hv, he,
    received_of_ne_nil key s hv] at h
  exact ⟨_, h, fun j hj => getLsbD_putWindow s.vbuf (valueOf value) value.length j hj, rfl⟩

/-- The register file after a write frame with a value is what its effect makes of it, selected or not (R157, R290). -/
theorem writeFrame_regs (key : Word) {value : List Word} (effect : State → State) (s : State) (hv : value ≠ []) :
    (writeFrame key value effect s).regs = (effect (received key value s)).regs := by
  obtain ⟨o, rs, ts, l, hend⟩ := endWrite_eq (effect (received key value s))
  rw [writeFrame, if_neg (by simpa using hv), hend]

/-! ### Writes that are discarded -/

/-- A value under an unlisted key that no added entry makes writable is discarded (R188, R194, R265). -/
theorem unlistedWrite_of_not_writable {key : Word} {t : State} (value : List Word)
    (h : ∀ p, t.platformEntry key = some p → p.direction = .readOnly) : unlistedWrite key value t = t := by
  unfold unlistedWrite
  split
  · rfl
  · next p hp =>
    rw [h p hp]
    rfl

/-- The frame of such a value changes no register, whatever its length (R188, R195). -/
theorem writeServed_discarded {s : State} {key : Word} {value : List Word} (hd : s.linkDesel = false)
    (hv : value ≠ []) (h : ∀ p, s.platformEntry key = some p → p.direction = .readOnly) :
    writeServed (.wrUnknown key value) key value s.regs s := by
  refine writeServed_of_exec (effect := unlistedWrite key value) rfl hd hv ?_
  rw [unlistedWrite_of_not_writable value (by simpa using h), ← received_regs key value s]

/-- Settles O43: where the platform added nothing, nothing is writable. -/
theorem unknownWritesAreDiscarded : Obligations.UnknownWritesAreDiscarded := by
  intro s key value hd hv _ hp
  exact writeServed_discarded hd hv fun p hp' => absurd (hp.symm.trans hp') (Option.some_ne_none p).symm

/-! ### Writes that the buffer holds -/

/-- A value as long as the register leaves its low bits there (R190, decision D16). -/
theorem mergePattern_of_long {w L : Nat} (old : BitVec w) (v : Value) (h : w ≤ 8 * L) :
    mergePattern old L v = v.setWidth w :=
  if_pos h

/-- A write of 1 to 8 bytes to a listed key but the reset key merges the value into its register, selected or not (R186,
R189, R290). -/
theorem exec_write_regs {i : Instr} {value : List Word} {e : Entry} (s : State) (hi : isWriteFrame i value)
    (hv : conforming value) (hm : mapEntry i.key = some e) (hr : e.accessor ≠ .resetPulse) :
    completes (exec i s) (fun t => t.regs = s.regs.update (merging value.length (valueOf value)) e.accessor) := by
  obtain ⟨h1, h8⟩ := hv
  have hw : e.direction.writable = true := (writable_of_mapEntry _ _ hm).trans hi.2.1
  refine completes_of_next (exec_of_isWriteFrame hi s) ?_
  rw [writeFrame_regs _ _ _ (List.ne_nil_of_length_pos h1), memWrite_listed _ _ _ _ e hm hw hr h1 h8, received_regs]

/-- Settles O45: what a write of 1 to 8 bytes merges into a register that its value reaches is the low bits of the
value. -/
theorem longWritesTakeTheLowBits : Obligations.LongWritesTakeTheLowBits := by
  refine ⟨fun i s value e hi hv hm hr hlong => ?rows, fun s key value w old hv hlong => ?pattern,
    fun s => ⟨?servo, ?led⟩⟩
  case rows =>
    obtain ⟨t, ht, hregs⟩ := exec_write_regs s hi hv hm hr
    obtain ⟨old, -, hnew⟩ :=
      accessorValue_regsUpdate s i.key e hm ((writable_of_mapEntry _ _ hm).trans hi.2.1) hr
    exact ⟨t, ht, (hnew t _ hregs).trans (congrArg _ (mergePattern_of_long old _ hlong))⟩
  case pattern =>
    rw [written, writtenPattern_conforming _ _ _ _ _ hv.2, mergePattern_of_long _ _ hlong, BitVec.toNat_setWidth]
  case servo =>
    obtain ⟨t, ht, hregs⟩ := exec_write_regs (i := .wrServo1 [0xAA#8, 0xBB#8, 0x12#8, 0x34#8]) s ⟨rfl, rfl, rfl⟩
      ⟨by decide, by decide⟩ rfl nofun
    refine completes_of_next ht ?_
    calc t.regs.servo1
        = mergePattern s.regs.servo1 4 (valueOf [0xAA#8, 0xBB#8, 0x12#8, 0x34#8]) := congrArg Registers.servo1 hregs
      _ = (valueOf [0xAA#8, 0xBB#8, 0x12#8, 0x34#8]).setWidth 16 := mergePattern_of_long _ _ (by decide)
      _ = 0x1234#16 := by decide
  case led =>
    obtain ⟨t, ht, hregs⟩ := exec_write_regs (i := .wrLedGreen [0x03#8]) s ⟨rfl, rfl, rfl⟩
      ⟨by decide, by decide⟩ rfl nofun
    refine completes_of_next ht ?_
    calc t.regs.ledGreen
        = mergePattern s.regs.ledGreen 1 (valueOf [0x03#8]) := congrArg Registers.ledGreen hregs
      _ = (valueOf [0x03#8]).setWidth 1 := mergePattern_of_long _ _ (by decide)
      _ = 1#1 := by decide

/-- Settles O54: a value of two bytes reaches the whole of a register of at most 16 bits, and 10 is below half of the
range of one of at least 5. -/
theorem signedPatternsReadAsTwosComplement : Obligations.SignedPatternsReadAsTwosComplement := by
  refine ⟨fun w p => ?_, fun w p => ⟨rfl, rfl⟩, fun w old h5 h16 => ?_⟩
  · rw [nativeValue, BitVec.toInt_eq_msb_cond]
    norm_cast
  · have hpow : 2 ^ 5 ≤ 2 ^ w := Nat.pow_le_pow_right (by decide) h5
    have hten : ((valueOf [0x00#8, 0x0A#8]).setWidth w).toNat = 10 := by
      have hvalue : (valueOf [0x00#8, 0x0A#8]).toNat = 10 := by decide
      rw [BitVec.toNat_setWidth, hvalue]
      exact Nat.mod_eq_of_lt (by omega)
    rw [nativeValue, mergePattern_of_long old _ h16, BitVec.toInt_eq_toNat_of_lt (by omega), hten]
    rfl

/-! ### Writes without a value byte -/

/-- The service tick of a write-complete with an empty value (R154, R157, R191). -/
theorem decoderTick_emptyWrite {s : State} (hd : s.linkDesel = false) (he : s.evt = .writeDone)
    (hl : s.length = 0#8) : decoderTick s = afterEmptyFrame s.key s := by
  rw [← writeFrame_eq_decoderTick s he (.inl hl), hl]
  exact writeFrame_empty_selected s.key _ s hd

/-- Settles O46: the length Word raises the event, whose service is that of an empty value. -/
theorem zeroLengthWriteIsANoOp : Obligations.ZeroLengthWriteIsANoOp := by
  intro s hg hd he hp hn hw
  obtain ⟨hraised, -⟩ := lengthWordOfAWrite s hg hd he hp hn
  let t : State := { s with length := 0#8, evt := .writeDone, rxSeen := s.rxToggle, txSeen := s.txToggle }
  have hserved : tick t = .next (afterEmptyFrame t.key t) :=
    (tickIsTheStepFunction t hg).trans (congrArg _ (decoderTick_emptyWrite hd rfl rfl))
  exact ⟨t, hraised hw, rfl, rfl, rfl, _, hserved, rfl, rfl, rfl, rfl, rfl, rfl⟩

/-! ### Writes beyond the buffer -/

/-- A write of more than 8 bytes to a listed key leaves a free value in its register, or a free pulse (R195; log 7). -/
theorem memWrite_listed_overlong (key : Word) (L : Nat) (v : Value) (s : State) (e : Entry)
    (hm : mapEntry key = some e) (hw : e.direction.writable = true) (hL : 8 < L) :
    ∃ (f : (w : Nat) → BitVec w → BitVec w) (g : Bool),
      memWrite key L v s =
        { s with regs := s.regs.update f e.accessor, globalReset := g, draws := s.draws + 1 } ∧
      (e.accessor ≠ .resetPulse → g = s.globalReset) := by
  have hL0 : L ≠ 0 := by omega
  have hcap : Config.valueCap < L := hL
  simp only [memWrite, hL0, if_false, entry_of_mapEntry s key e hm, hw, if_true]
  by_cases hr : e.accessor = .resetPulse
  · refine ⟨fun _ old => old, (drawn s .pulse 1).msb, ?_, absurd hr⟩
    simp only [hr, pulseReset, spendOverlong, hcap, if_true, Registers.update]
  · refine ⟨fun _ old => writtenPattern s key L v old, s.globalReset, ?_, fun _ => rfl⟩
    simp only [updateRegister_listed _ _ _ hm, spendOverlong, hcap, if_true]

/-- Settles O48: the buffer is full of the value, and `MemWrite` draws once. -/
theorem overlongWritesFreeOneRegister : Obligations.OverlongWritesFreeOneRegister := by
  intro i s value e hw he hk hL hd hm
  have hv : value ≠ [] := List.ne_nil_of_length_pos (by omega)
  obtain ⟨f, g, hmem, hg⟩ := memWrite_listed_overlong i.key value.length (valueOf value) (received i.key value s) e
    hm ((writable_of_mapEntry _ _ hm).trans hk) hL
  have hexec := exec_of_isWriteFrame ⟨hw, hk, he⟩ s
  rw [writeFrame_selected _ _ _ _ (by simp [hmem, hd]) hv, hmem, received_of_ne_nil i.key s hv,
    putWindow_full _ _ (Nat.le_of_lt hL)] at hexec
  rw [received_of_ne_nil i.key s hv] at hg
  exact ⟨_, hexec, f, hg, rfl⟩

/-- A write of more than 8 bytes to an added writable entry leaves a free pattern there (R195, R266; log 7). -/
theorem unlistedWrite_overlong {key : Word} {value : List Word} {t : State} {p : PlatformEntry}
    (hp : t.platformEntry key = some p) (hw : p.direction.writable = true) (hL : 8 < value.length) :
    unlistedWrite key value t = { t with
      platform := updatePlatform key (fun _ old => written t key value old) t.platform, draws := t.draws + 1 } := by
  have hcap : Config.valueCap < value.length := hL
  simp only [unlistedWrite, hp, hw, if_true, spendOverlong, hcap]

/-- Settles O59: a read-only entry discards the value as at any length, a writable one takes a draw into its pattern
alone. -/
theorem overlongWritesToAddedEntries : Obligations.OverlongWritesToAddedEntries := by
  intro s key value p hd hL _ hp
  have hv : value ≠ [] := List.ne_nil_of_length_pos (by omega)
  refine ⟨fun hro => ?_, fun hwr => ?_⟩
  · exact writeServed_discarded hd hv fun q hq => Option.some.inj (hp.symm.trans hq) ▸ hro
  · have hreceived : (received key value s).platformEntry key = some p := (received_platformEntry ..).trans hp
    have hwrite := unlistedWrite_overlong hreceived (writable_of_ne hwr) hL
    have hexec : exec (.wrUnknown key value) s =
        .next { unlistedWrite key value (received key value s) with evt := .none, phase := .readKey } :=
      congrArg _ (writeFrame_selected key value _ s (by simp [hwrite, hd]) hv)
    rw [hwrite] at hexec
    refine completes_of_next hexec
      ⟨⟨written (received key value s) key value (BitVec.ofNat p.width p.pattern), ?own⟩, fun other hne => ?other,
        ?frame⟩
    case own => exact (platformEntry_update _ key key _).trans (by rw [if_pos rfl, hreceived]; rfl)
    case other =>
      exact ((platformEntry_update _ key other _).trans (if_neg hne)).trans (received_platformEntry ..)
    case frame => rw [received_of_ne_nil key s hv, putWindow_full _ _ (Nat.le_of_lt hL)]

/-! ### What agent P makes a read find -/

/-- The value behind a listed read key but 0x42 has its row's width, and agent P's change at its accessor gives it the
new pattern (R33, R196). The rows of the map are of three kinds: a write key's, that of 0x42 and a peripheral's. -/
theorem accessorValue_periphUpdate (s : State) (key : Word) (e : Entry) (h : mapEntry key = some e)
    (hr : e.direction.readable = true) (hc : e.accessor ≠ .diagConst) (f : (w : Nat) → BitVec w → BitVec w) :
    ∃ old : BitVec e.width, State.accessorValue { s with periph := s.periph.update f e.accessor } e.accessor =
      (f e.width old).setWidth 64 := by
  unfold mapEntry at h
  split at h
  case h_54 => cases h
  all_goals
    injection h with h
    subst h
    first
      | exact absurd hr Bool.false_ne_true
      | exact absurd rfl hc
      | exact ⟨_, rfl⟩

/-- Settles O60: the change reaches the value behind the key's own accessor, or the pattern of the key's own entry. -/
theorem peripheralsSetTheirOwnValue : Obligations.PeripheralsSetTheirOwnValue := by
  intro s key v rest hin
  let u : State := { s with inputs := rest }
  have hstep : step s = .next (supply key v u) := by simp only [step, hin, u]
  refine ⟨fun e hm hdir hne => ?listed, fun p hm hp hdir => ?added⟩
  case listed =>
    have hr : e.direction.readable = true := by rw [hdir, Direction.readable]
    have hc : e.accessor ≠ .diagConst := fun hc => hne (by rw [← accessorKey_mapEntry key e hm, hc, accessorKey])
    obtain ⟨old, hnew⟩ := accessorValue_periphUpdate u key e hm hr hc (fun w _ => BitVec.ofNat w v)
    rw [supply_listed key v u e hm, if_pos hr] at hstep
    refine completes_of_next hstep ?_
    simp only [readValue, entry_of_mapEntry _ key e hm, hr, if_true, getValue_of_mapEntry _ key e hm, hnew]
  case added =>
    have hr : p.direction.readable = true := readable_of_ne hdir
    have hu : u.platformEntry key = some p := hp
    rw [supply_added key v u p hm hu, if_pos hr] at hstep
    have hpat : p.update (fun w _ => BitVec.ofNat w v) = { p with pattern := v % 2 ^ p.width } := by
      rw [PlatformEntry.update, BitVec.toNat_ofNat]
    have hnew := platformEntry_update u key key (fun w _ => BitVec.ofNat w v)
    rw [if_pos rfl, hu, Option.map_some, hpat] at hnew
    have hentry := entry_of_platformEntry _ key _ hm hnew
    refine completes_of_next hstep ⟨hnew, fun hmir => ?_⟩
    simp only [readValue, hentry, PlatformEntry.entry, hr, if_true, State.getValue, hnew, State.platformGet, hmir]

end Sys2Proof.Machine
end

section
/-! SUPPORT. The register map, row by row: which value each read row shows, and where each write row of 1 to 8 bytes
stores its value (43_register_map R211 to R266). -/

namespace Sys2Proof.Machine

/-! ### The read rows -/

/-- Settles O32: each row is the read frame of its count. -/
theorem odoCountReadsAreServed : Obligations.OdoCountReadsAreServed := by
  intro s len hd hl
  and_intros <;> exact readServed_of_exec rfl hd hl

/-- Settles O33: each row is the read frame of its speed. -/
theorem odoSpeedReadsAreServed : Obligations.OdoSpeedReadsAreServed := by
  intro s len hd hl
  and_intros <;> exact readServed_of_exec rfl hd hl

/-- Settles O34: each row is the read frame of its port. -/
theorem extPortReadsAreServed : Obligations.ExtPortReadsAreServed := by
  intro s len hd hl
  and_intros <;> exact readServed_of_exec rfl hd hl

/-- Settles O35: each row is the read frame of its register, the first one that of the constant. -/
theorem diagnosticReadsAreServed : Obligations.DiagnosticReadsAreServed := by
  intro s len hd hl
  and_intros <;> exact readServed_of_exec rfl hd hl

/-- A read of an added entry finds what its `get` answers where it is readable, else the sentinel (R194, R266). -/
theorem unlistedValue_added {s : State} {key : Word} {p : PlatformEntry} (hp : s.platformEntry key = some p) :
    unlistedValue s key = if p.direction.readable then s.platformGet p else Config.sentinel := by
  simp only [unlistedValue, hp]

/-- The default read row is served with what stands under its key outside the map (R264, R266). -/
theorem readServed_unlisted {s : State} {key len : Word} {x : Value} (hd : s.linkDesel = false) (hl : len ≠ 0#8)
    (hx : unlistedValue s key = x) : readServed (.rdUnknown key len) key len x s := by
  subst hx
  exact readServed_of_exec rfl hd hl

/-- Settles O37, for an entry that cannot be read and for one that can. -/
theorem addedEntriesAreRead : Obligations.AddedEntriesAreRead := by
  intro s key len p hd hl hp
  have hvalue := unlistedValue_added hp
  refine ⟨fun hwo => readServed_unlisted hd hl ?_, fun hr => readServed_unlisted hd hl ?_⟩
  · rw [hvalue, hwo]
    rfl
  · rw [hvalue, readable_of_ne hr, if_pos rfl]

/-! ### The write rows that store -/

/-- The merged pattern is the value where it reaches, else what stood there (R186, R189, R190). -/
theorem takesValue_mergePattern {w : Nat} (old : BitVec w) (value : List Word) :
    takesValue old (mergePattern old value.length (valueOf value)) value :=
  getLsbD_mergePattern old value.length (valueOf value)

/-- The row of a listed write key but the reset key serves 1 to 8 bytes by merging them into its register: `old` is the
pattern that stood there, `put` the register file with another pattern in its place (R99, R186, R187, R193). -/
theorem writeServed_listed {i : Instr} {key : Word} {value : List Word} {e : Entry} {s : State} {w : Nat}
    {old : BitVec w} {put : BitVec w → Registers} (hd : s.linkDesel = false) (hv : conforming value)
    (hi : decodeWrite key value = i) (hk : isWriteKey key = true) (hm : mapEntry key = some e)
    (hr : e.accessor ≠ .resetPulse)
    (hput : s.regs.update (merging value.length (valueOf value)) e.accessor =
      put (mergePattern old value.length (valueOf value))) :
    ∃ p, takesValue old p value ∧ writeServed i key value (put p) s := by
  subst hi
  obtain ⟨h1, h8⟩ := hv
  have hw : e.direction.writable = true := (writable_of_mapEntry key e hm).trans hk
  refine ⟨_, takesValue_mergePattern old value,
    writeServed_of_exec (exec_decodeWrite key value s hk) hd (List.ne_nil_of_length_pos h1) ?_⟩
  rw [memWrite_listed _ _ _ _ e hm hw hr h1 h8, received_regs, hput]

/-- Settles O38: each row merges into its own LED. -/
theorem ledWritesAreServed : Obligations.LedWritesAreServed := by
  intro s value hd hv
  and_intros <;> exact writeServed_listed hd hv rfl rfl rfl nofun rfl

/-- Settles O39: each row merges into its own motor register. -/
theorem motorWritesAreServed : Obligations.MotorWritesAreServed := by
  intro s value hd hv
  and_intros <;> exact writeServed_listed hd hv rfl rfl rfl nofun rfl

/-- Settles O40: each row merges into its own servo register. -/
theorem servoWritesAreServed : Obligations.ServoWritesAreServed := by
  intro s value hd hv
  and_intros <;> exact writeServed_listed hd hv rfl rfl rfl nofun rfl

/-- Settles O41: each row merges into its own control register. -/
theorem controlWritesAreServed : Obligations.ControlWritesAreServed := by
  intro s value hd hv
  and_intros <;> exact writeServed_listed hd hv rfl rfl rfl nofun rfl

/-- What a selected write frame with a value leaves, where its effect is known (R155, R157, R193). -/
theorem exec_of_effect {i : Instr} {key : Word} {value : List Word} {effect : State → State} {s t : State}
    (h : exec i s = .next (writeFrame key value effect s)) (hv : value ≠ [])
    (he : effect (received key value s) = t) (hd : t.linkDesel = false) :
    exec i s = .next { t with evt := .none, phase := .readKey } := by
  subst he
  rw [h, writeFrame_selected key value effect s hd hv]

/-- The buffer with a window put into it has taken that window (R28, R193). -/
theorem takesWindow_putWindow (v x : Value) (L : Nat) : takesWindow v (putWindow v L x) L x :=
  getLsbD_putWindow v x L

/-! ### The reset row -/

/-- A write that the buffer holds raises `global_reset` and uses no draw (R192, R237). -/
theorem pulseReset_conforming (L : Nat) (s : State) (hL : L ≤ 8) :
    pulseReset L s = { s with globalReset := true } := by
  have hcap : ¬ Config.valueCap < L := Nat.not_lt.mpr hL
  simp only [pulseReset, hcap, if_false, spendOverlong_conforming L _ hL]

/-- A tick with no write-complete pending ends the pulse, looped back or not (R34, R193, R315). -/
theorem tick_globalReset {s : State} (he : s.evt ≠ .writeDone) :
    completes (tick s) (fun u => u.globalReset = false) := by
  refine completes_of_next (tick_eq s) ?_
  split
  · rfl
  · exact decoderTick_globalReset he

/-- Settles O42: the frame leaves no event, so the next tick services no write. -/
theorem resetWritePulses : Obligations.ResetWritePulses := by
  intro s value hd hv
  obtain ⟨h1, h8⟩ := hv
  have hne : value ≠ [] := List.ne_nil_of_length_pos h1
  have hexec := exec_of_effect (i := .wrReset value) (s := s) rfl hne (pulseReset_conforming _ _ h8) (by simp [hd])
  rw [received_of_ne_nil _ s hne] at hexec
  exact completes_of_next hexec ⟨takesWindow_putWindow _ _ _, rfl, tick_globalReset nofun⟩

/-! ### The added entries -/

/-- A write of 1 to 8 bytes to an added writable entry merges the value into its pattern, whatever the key (R186,
R266). -/
theorem unlistedWrite_conforming {key : Word} {value : List Word} {t : State} {p : PlatformEntry}
    (hp : t.platformEntry key = some p) (hw : p.direction.writable = true) (h8 : value.length ≤ 8) :
    unlistedWrite key value t =
      { t with platform := updatePlatform key (merging value.length (valueOf value)) t.platform } := by
  simp only [unlistedWrite, hp, hw, if_true, written, writtenPattern_conforming _ _ _ _ _ h8,
    spendOverlong_conforming _ _ h8]

/-- Settles O44: a read-only entry discards the value, a writable one merges it into its pattern. -/
theorem addedEntriesAreWritten : Obligations.AddedEntriesAreWritten := by
  intro s key value p hd hv hp
  obtain ⟨h1, h8⟩ := hv
  have hne : value ≠ [] := List.ne_nil_of_length_pos h1
  refine ⟨fun hro => ?discarded, fun hwr => ?merged⟩
  case discarded => exact writeServed_discarded hd hne fun q hq => Option.some.inj (hp.symm.trans hq) ▸ hro
  case merged =>
    have hreceived : (received key value s).platformEntry key = some p := (received_platformEntry ..).trans hp
    have hexec := exec_of_effect (i := .wrUnknown key value) rfl hne
      (unlistedWrite_conforming hreceived (writable_of_ne hwr) h8) (by simp [hd])
    rw [received_of_ne_nil key s hne] at hexec
    refine ⟨_, takesValue_mergePattern _ value, completes_of_next hexec ⟨?own, fun other hother => ?other,
      takesWindow_putWindow _ _ _, rfl⟩⟩
    case own => exact (platformEntry_update s key key _).trans (by rw [if_pos rfl, hp]; rfl)
    case other => exact (platformEntry_update s key other _).trans (if_neg hother)

end Sys2Proof.Machine
end

section
/-! SUPPORT. The exceptions of the hardware: nothing stops, each agent writes its own elements, and the one trap, the
deselection, lets a service that is due take its effect (60_exceptions R280, R287, R290, R295). -/

namespace Sys2Proof.Machine

/-! ### Nothing stops -/

/-- A tick answers a next state: no frame that is due is refused (R164, R280). -/
theorem tick_completes (s : State) : completes (tick s) (fun _ => True) :=
  completes_of_next (tick_eq s) trivial

/-- Every frame has a meaning, which answers a next state (R280). -/
theorem exec_completes (i : Instr) (s : State) : completes (exec i s) (fun _ => True) := by
  obtain ⟨len, x, -, hexec⟩ | ⟨value, effect, -, hexec⟩ := exec_cases i s
  · exact completes_of_next hexec trivial
  · exact completes_of_next hexec trivial

/-- Settles O6: the step is a tick, or one of the other events, which are plain functions of the state. -/
theorem stepNeverStops : Obligations.StepNeverStops := by
  refine ⟨fun s => ?_, exec_completes⟩
  unfold step
  cases s.inputs with
  | nil => exact tick_completes s
  | cons e rest =>
    cases e with
    | tick => exact tick_completes _
    | select | deselect | rise | fall b | periph k v => exact completes_of_next rfl trivial

/-! ### Each agent writes its own elements -/

/-- What agent L does not write: FrameDecoder's and RegisterDispatch's elements, the peripherals, the table and the queued
Word (R74, R295). -/
def OthersKept (s t : State) : Prop :=
  t.phase = s.phase ∧ t.key = s.key ∧ t.length = s.length ∧ t.offset = s.offset ∧ t.vbuf = s.vbuf ∧
    t.rxSeen = s.rxSeen ∧ t.txSeen = s.txSeen ∧ t.evt = s.evt ∧ t.rdLast = s.rdLast ∧
    t.globalReset = s.globalReset ∧ t.regs = s.regs ∧ t.periph = s.periph ∧ t.platform = s.platform ∧
    t.txPending = s.txPending

/-- An event of agent L writes the link side, the valid bit of the queue and the model's own counters alone (R121 to
R127). -/
theorem linkEvent_keepsOthers {s t : State} {e : Input} {rest : List Input} (hin : s.inputs = e :: rest)
    (he : e = .select ∨ e = .deselect ∨ e = .rise ∨ ∃ b, e = .fall b) (h : step s = .next t) : OthersKept s t := by
  obtain rfl | rfl | rfl | ⟨b, rfl⟩ := he
  · obtain rfl : onSelect _ = t := Host.Outcome.next.inj ((step_select hin).symm.trans h)
    and_intros <;> rfl
  · obtain rfl : onDeselect _ = t := Host.Outcome.next.inj ((step_deselect hin).symm.trans h)
    and_intros <;> rfl
  · obtain rfl : onRise _ = t := Host.Outcome.next.inj ((step_rise hin).symm.trans h)
    obtain ⟨o, sh, c, v, tg, d, hrise, -⟩ := onRise_eq { s with inputs := rest }
    rw [hrise]
    and_intros <;> rfl
  · obtain rfl : onFall b _ = t := Host.Outcome.next.inj ((step_fall hin).symm.trans h)
    obtain ⟨sh, w, c, tg, hfall, -⟩ := onFall_eq b { s with inputs := rest }
    rw [hfall]
    and_intros <;> rfl

/-- A tick writes no element of SerialEngine but the queue, which it can only fill, and no peripheral (R150, R295). -/
theorem decoderTick_keepsLink (s : State) :
    (decoderTick s).linkDesel = s.linkDesel ∧ (decoderTick s).linkOut = s.linkOut ∧
      (decoderTick s).rxShift = s.rxShift ∧ (decoderTick s).rxCnt = s.rxCnt ∧ (decoderTick s).rxWord = s.rxWord ∧
      (decoderTick s).txShift = s.txShift ∧ (decoderTick s).txCnt = s.txCnt ∧
      (decoderTick s).rxToggle = s.rxToggle ∧ (decoderTick s).txToggle = s.txToggle ∧
      (decoderTick s).periph = s.periph ∧ (s.txPendingValid = true → (decoderTick s).txPendingValid = true) := by
  obtain ⟨g, b, r, ps, d, hservice, -⟩ := service_eq s
  obtain ⟨w, v, p, k, len, o, b', rs, ts, e, l, d', hdecode, hv⟩ := decodePart_eq s.evt (service s)
  rw [decoderTick, hdecode]
  rw [hservice] at hv ⊢
  exact ⟨rfl, rfl, rfl, rfl, rfl, rfl, rfl, rfl, rfl, rfl, hv⟩

/-- Settles O13: the events of agent L one by one, and the tick as FrameDecoder's transition. -/
theorem eachAgentWritesItsOwnState : Obligations.EachAgentWritesItsOwnState := by
  refine ⟨fun s t e rest hin he h => linkEvent_keepsOthers hin he h, fun s t hg h => ?_⟩
  obtain rfl : decoderTick s = t := Host.Outcome.next.inj ((tickIsTheStepFunction s hg).symm.trans h)
  exact decoderTick_keepsLink s

/-! ### What a service does not read -/

section

variable (s : State) (d : Bool) (key : Word)

/-- Reception does not depend on the link (R96, R155). -/
theorem received_withLinkDesel (value : List Word) :
    received key value { s with linkDesel := d } = { received key value s with linkDesel := d } := by
  unfold received
  split <;> rfl

/-- Nor does `MemWrite`, wherever it leaves no free value: the premise shuts out a value beyond the buffer under a
writable key (R186, R193, R195). -/
theorem memWrite_withLinkDesel (L : Nat) (v : Value)
    (hfree : ∀ e, s.entry key = some e → e.direction.writable = true → L ≤ 8) :
    memWrite key L v { s with linkDesel := d } = { memWrite key L v s with linkDesel := d } := by
  have hentry : State.entry { s with linkDesel := d } key = s.entry key := rfl
  unfold memWrite
  rw [hentry]
  by_cases hL : L = 0
  · simp only [hL, if_true]
  · cases he : s.entry key with
    | none => simp only [hL, if_false]
    | some e =>
      cases hw : e.direction.writable with
      | false => simp only [hL, if_false, hw, Bool.false_eq_true]
      | true =>
        have h8 : L ≤ 8 := hfree e he hw
        simp only [hL, if_false, hw, if_true, pulseReset_conforming _ _ h8, spendOverlong_conforming _ _ h8,
          writtenPattern_conforming _ _ _ _ _ h8, State.updateRegister]
        cases e.accessor <;> rfl

end

/-! ### What a frame leaves, selected or not -/

/-- The window of a read frame is filled whether the link is selected or not (R156, R193, R290). -/
theorem readFrame_vbuf (key len : Word) (x : Value) (s : State) :
    (readFrame key len x s).vbuf = putWindow s.vbuf len.toNat x := by
  unfold readFrame
  split
  · next hl =>
    rw [hl, BitVec.toNat_zero, putWindow_zero]
    split <;> rfl
  · split
    · rfl
    · obtain ⟨w, v, d, hsubmit, -⟩ := submitAt_eq (offsetOf len) { s with
        key := key, length := len, globalReset := false, vbuf := putWindow s.vbuf len.toNat x
        offset := offsetOf len, evt := .none, phase := .masterRead, rdLast := false }
      rw [hsubmit]

/-- `MemWrite` has no effect for an empty value, so that a write frame of any length is received, serviced and ended
(R157, R191). -/
theorem writeFrame_memWrite (key : Word) (value : List Word) (v : Value) (s : State) :
    writeFrame key value (memWrite key value.length v) s =
      endWrite (memWrite key value.length v (received key value s)) := by
  cases value <;> rfl

/-- The window of a write frame is stored whether the link is selected or not, and its service does not touch it (R155,
R186, R290). -/
theorem writeFrame_vbuf (key : Word) (value : List Word) (v : Value) (s : State) :
    (writeFrame key value (memWrite key value.length v) s).vbuf = putWindow s.vbuf value.length (valueOf value) := by
  obtain ⟨g, r, ps, d, hmem, -⟩ := memWrite_eq key value.length v (received key value s)
  obtain ⟨o, rs, ts, l, hend⟩ := endWrite_eq (memWrite key value.length v (received key value s))
  rw [writeFrame_memWrite, hend, hmem]
  cases value with
  | nil => exact (putWindow_zero s.vbuf _).symm
  | cons b bytes => rfl

/-! ### A frame serviced while deselected -/

/-- The frame of `s` is forgotten in `t`: the decoder is in `ReadKey` with no event and its seen-copies resynchronised,
and nothing is queued that was not queued before (R160, R288). -/
def Forgotten (s t : State) : Prop :=
  t.phase = .readKey ∧ t.offset = 0#11 ∧ t.evt = .none ∧ t.rdLast = false ∧ t.rxSeen = s.rxToggle ∧
    t.txSeen = s.txToggle ∧ t.txPending = s.txPending ∧ t.txPendingValid = s.txPendingValid

section

variable {s : State}

/-- A deselected read frame queues no byte of its window (R125, R160, R290). -/
theorem readFrame_forgotten (key len : Word) (x : Value) (hd : s.linkDesel = true) :
    Forgotten s (readFrame key len x s) := by
  unfold readFrame
  rw [if_pos hd, if_pos hd]
  split <;> exact ⟨rfl, rfl, rfl, rfl, rfl, rfl, rfl, rfl⟩

/-- The service of a write frame touches neither the link nor the queue, so that its end cancels the frame (R160,
R290). -/
theorem writeFrame_forgotten (key : Word) (value : List Word) (v : Value) (hd : s.linkDesel = true) :
    Forgotten s (writeFrame key value (memWrite key value.length v) s) := by
  obtain ⟨g, r, ps, d, hmem, -⟩ := memWrite_eq key value.length v (received key value s)
  rw [writeFrame_memWrite, hmem, endWrite, if_pos ((received_linkDesel key value s).trans hd)]
  unfold received
  split <;> exact ⟨rfl, rfl, rfl, rfl, rfl, rfl, rfl, rfl⟩

end

/-- A write frame on either side of the link ends the same service, unless the value leaves free values (R157, R195,
R287, R290). -/
theorem writeFrame_withLinkDesel (key : Word) (value : List Word) (v : Value) (s : State) (d : Bool)
    (hfree : ∀ e, s.entry key = some e → e.direction.writable = true → value.length ≤ 8) :
    writeFrame key value (memWrite key value.length v) { s with linkDesel := d } =
      endWrite { memWrite key value.length v (received key value s) with linkDesel := d } := by
  have hentry : (received key value s).entry key = s.entry key := by
    simp only [State.entry, received_platformEntry]
  rw [writeFrame_memWrite, received_withLinkDesel, memWrite_withLinkDesel _ d key _ v (hentry ▸ hfree)]

/-- Settles O49: a read stores nothing but its window, and a write does not ask for the link. -/
theorem deselectionDoesNotCancelAService : Obligations.DeselectionDoesNotCancelAService := by
  intro i s hw
  let deselected : State := { s with linkDesel := true }
  let selected : State := { s with linkDesel := false }
  obtain ⟨hk, len, henc, -⟩ | ⟨hk, value, -, henc, -⟩ := Laws.FrameEncoding.statement_holds i hw
  · have hexec (u : State) : exec i u = .next (readFrame i.key len (readValue u i.key) u) :=
      (meaningsFollowTheTable i u hw).1 len hk henc
    refine completes_of_next (hexec deselected) (completes_of_next (hexec selected) ⟨fun _ => ?effect, ?window,
      readFrame_forgotten (s := deselected) _ _ _ rfl⟩)
    case effect =>
      obtain ⟨_, _, _, _, _, _, _, _, _, ht, -⟩ := readFrame_eq i.key len (readValue deselected i.key) deselected
      obtain ⟨_, _, _, _, _, _, _, _, _, hu, -⟩ := readFrame_eq i.key len (readValue selected i.key) selected
      rw [ht, hu]
      exact ⟨rfl, rfl, rfl⟩
    case window =>
      rw [readFrame_vbuf, readFrame_vbuf]
      rfl
  · have hexec := exec_of_isWriteFrame ⟨hw, hk, henc⟩
    refine completes_of_next (hexec deselected) (completes_of_next (hexec selected) ⟨fun hfree => ?effect, ?window,
      writeFrame_forgotten (s := deselected) _ _ _ rfl⟩)
    case effect =>
      have hfits : ∀ e, s.entry i.key = some e → e.direction.writable = true → value.length ≤ 8 := by
        intro e he hwr
        have h10 := hfree e he hwr
        rw [henc, writeWords, List.length_cons, List.length_cons] at h10
        omega
      rw [writeFrame_withLinkDesel _ _ _ s true hfits, writeFrame_withLinkDesel _ _ _ s false hfits]
      exact ⟨rfl, rfl, rfl⟩
    case window =>
      rw [writeFrame_vbuf, writeFrame_vbuf]

end Sys2Proof.Machine
end

section
/-! SUPPORT. Reset and timing: the tick after a reset pulse, what two ticks make of any pending work, and the turnaround
of a read (70_reset_and_hazards R315 to R317). -/

namespace Sys2Proof.Machine

/-! ### The tick after a reset pulse -/

/-- A tick does not read `global_reset`, which its service sets anew (R34, R193). -/
theorem decoderTick_withoutPulse (s : State) : decoderTick { s with globalReset := false } = decoderTick s := by
  have hservice : service { s with globalReset := false } = service s := rfl
  rw [decoderTick, hservice, decoderTick]

/-- Settles O56, for both values of `RESET_LOOPBACK`; the idle elements are those that `coreReset` writes out. -/
theorem loopbackResetsTheCore : Obligations.LoopbackResetsTheCore := by
  intro s hg
  refine ⟨?_, rfl, rfl, rfl, rfl, rfl, rfl, rfl, rfl, rfl, rfl, rfl⟩
  rw [tickIsTheStepFunction { s with globalReset := false } rfl, decoderTick_withoutPulse, tick_eq, hg, Bool.true_and]
  cases Config.resetLoopback <;> rfl

/-! ### Two ticks -/

/-- Neither flag shows work (R29, R128, R129). -/
def NoWork (s : State) : Prop := rxNew s = false ∧ txNew s = false

section

variable {s t : State}

/-- Both seen-copies agree with their flags where both have been observed (R29, R151). -/
theorem noWork_of_seen (hrx : s.rxSeen = s.rxToggle) (htx : s.txSeen = s.txToggle) : NoWork s := by
  rw [NoWork, rxNew, txNew, hrx, htx, bne_self_eq_false, bne_self_eq_false]
  exact ⟨rfl, rfl⟩

/-- The rule of every decoder state observes both flags (R151). -/
theorem noWork_decodeState (s : State) : NoWork (decodeState s) := by
  obtain ⟨w, v, p, k, len, o, b, e, l, d, h, -⟩ := decodeState_eq s
  rw [h]
  exact noWork_of_seen rfl rfl

/-- A tick that cancels or runs the rule of a state observes both flags (R150, R160). -/
theorem noWork_decoderTick_of_observing (h : s.linkDesel = true ∨ s.evt = .none) : NoWork (decoderTick s) := by
  cases hd : s.linkDesel with
  | true =>
    rw [decoderTick_deselected hd]
    exact noWork_of_seen rfl rfl
  | false =>
    have he : s.evt = .none := h.resolve_left (by simp [hd])
    have hrule : decoderTick s = decodeState (service s) := by simp [decoderTick, decodePart, hd, he]
    rw [hrule]
    exact noWork_decodeState _

/-- The tick of a pending read-request, selected: its service, then the first value byte is submitted (R156, R193). -/
theorem decoderTick_commitRead (hd : s.linkDesel = false) (he : s.evt = .readReq) : decoderTick s =
    submitAt (service s).offset { service s with evt := .none, phase := .masterRead, rdLast := false } := by
  simp [decoderTick, decodePart, hd, he]

/-- The tick of a pending write-complete, selected: its service, then the frame is over (R157, R193). -/
theorem decoderTick_commitWrite (hd : s.linkDesel = false) (he : s.evt = .writeDone) : decoderTick s =
    { service s with evt := .none, phase := .readKey } := by
  simp [decoderTick, decodePart, hd, he]

/-- A tick that commits an event leaves the flags and their seen-copies alone (R156, R157). -/
theorem noWork_decoderTick_of_committing (hd : s.linkDesel = false) (he : s.evt ≠ .none) (h : NoWork s) :
    NoWork (decoderTick s) := by
  obtain ⟨g, b, r, ps, d, hs, -⟩ := service_eq s
  cases hev : s.evt with
  | none => exact absurd hev he
  | readReq =>
    obtain ⟨w, v, d', hsub, -⟩ :=
      submitAt_eq (service s).offset { service s with evt := .none, phase := .masterRead, rdLast := false }
    rw [decoderTick_commitRead hd hev, hsub, hs]
    exact h
  | writeDone =>
    rw [decoderTick_commitWrite hd hev, hs]
    exact h

/-- A tick is the core's reset or the step function of R151 (R315). -/
theorem tick_next_cases (h : tick s = .next t) : t = coreReset s ∨ t = decoderTick s := by
  rw [tick_eq] at h
  obtain rfl := Host.Outcome.next.inj h
  split
  · exact .inl rfl
  · exact .inr rfl

/-- After one tick no flag shows work, or else an event has been committed and none is pending (R131, R162). -/
theorem noWork_or_noEvent_of_tick (h : tick s = .next t) : NoWork t ∨ t.evt = .none := by
  obtain rfl | rfl := tick_next_cases h
  · exact .inl (noWork_of_seen rfl rfl)
  · by_cases hobs : s.linkDesel = true ∨ s.evt = .none
    · exact .inl (noWork_decoderTick_of_observing hobs)
    · exact .inr (decoderTick_evt_of_not_ready (.inr fun he => hobs (.inr he)))

/-- A tick leaves no flag showing work if none showed any, or if no event is to be committed (R131). -/
theorem noWork_of_tick (h : tick s = .next t) (hs : NoWork s ∨ s.evt = .none) : NoWork t := by
  obtain rfl | rfl := tick_next_cases h
  · exact noWork_of_seen rfl rfl
  · by_cases hobs : s.linkDesel = true ∨ s.evt = .none
    · exact noWork_decoderTick_of_observing hobs
    · obtain ⟨hd, he⟩ := not_or.mp hobs
      exact noWork_decoderTick_of_committing (by simpa using hd) he (hs.resolve_right he)

end

/-- Settles O30: a first tick that observes nothing has committed the event, and the second has none to commit. -/
theorem twoTicksObserveEveryWord : Obligations.TwoTicksObserveEveryWord := by
  intro s t u ht hu
  exact noWork_of_tick hu (noWork_or_noEvent_of_tick ht)

/-! ### The turnaround of a read -/

/-- The tick of a raised read-request runs the read frame that raised it (R156). -/
theorem tick_of_readRequest {s : State} (hg : s.globalReset = false) (he : s.evt = .readReq)
    (hk : isWriteKey s.key = false) (hl : s.length ≠ 0#8) (ho : s.offset = offsetOf s.length) :
    tick s = exec (decodeRead s.key s.length) s := by
  rw [tickIsTheStepFunction s hg, exec_decodeRead _ _ _ hk, readFrame_eq_decoderTick s he hl ho]

/-- Settles O31: the length Word raises the read-request, and the frame is then served. -/
theorem readTurnaroundTakesTwoTicks : Obligations.ReadTurnaroundTakesTwoTicks := by
  intro s hg hd he hp hq hk hn h1 h8
  have hl : s.rxWord ≠ 0#8 := fun e => absurd h1 (by rw [e]; decide)
  obtain ⟨-, hraise⟩ := lengthWordOfARead s hg hd he hp hn
  obtain ⟨o, ho, ht⟩ := hraise hl
  obtain rfl : o = offsetOf s.rxWord := BitVec.eq_of_toNat_eq (ho.trans (offsetOf_toNat s.rxWord hl).symm)
  let t : State := { s with
    length := s.rxWord, offset := offsetOf s.rxWord, evt := .readReq, rxSeen := s.rxToggle, txSeen := s.txToggle }
  have hserved : readServed (decodeRead s.key s.rxWord) s.key s.rxWord (readValue s s.key) t :=
    readServed_of_exec (exec_decodeRead s.key s.rxWord t hk) hd hl
  obtain ⟨u, hexec, -, hoff, hbyte, hu⟩ := hserved
  have hphase : u.phase = .masterRead := by rw [hu]
  have hqueued : u.txPendingValid = true := by rw [hu]
  have htick : tick t = .next u := (tick_of_readRequest (s := t) hg rfl hk hl rfl).trans hexec
  exact ⟨t, u, ht, hq, htick, hphase, hoff, hqueued, (hbyte h8).2⟩

end Sys2Proof.Machine
end

section
/-! SUPPORT. A write frame over the wire: what FrameDecoder makes of the key, the length and the value Words, and the
service that ends the frame (41_frame_decoder R152, R154, R155, R157, 70_reset_and_hazards R316, R319). -/

namespace Sys2Proof.Machine

/-! ### The value in the buffer -/

/-- A byte stored at the top of a window, and the rest of the window after it, are the whole window (R96, R155). -/
theorem putWindow_putByte (v : Value) (w : Word) (after : List Word) :
    putWindow (putByte v (8 * after.length) w) after.length (valueOf after) =
      putWindow v (after.length + 1) (valueOf (w :: after)) := by
  have hcons : valueOf (w :: after) = (valueOf [w] <<< (8 * after.length)) ||| valueOf after :=
    valueOf_append [w] after
  have hone : valueOf [w] = w.setWidth 64 := by simp [valueOf]
  apply BitVec.eq_of_getLsbD_eq
  intro j hj
  rw [getLsbD_putWindow _ _ _ _ hj, getLsbD_putWindow _ _ _ _ hj, getLsbD_putByte _ _ _ _ hj, hcons, hone,
    BitVec.getLsbD_or, BitVec.getLsbD_shiftLeft, BitVec.getLsbD_setWidth]
  by_cases hlow : j < 8 * after.length
  · have htop : j < 8 * (after.length + 1) := by omega
    simp [hlow, htop]
  · have hle : 8 * after.length ≤ j := Nat.le_of_not_lt hlow
    rw [getLsbD_valueOf_of_ge after j hle]
    by_cases hbyte : j < 8 * after.length + 8
    · have hin : j - 8 * after.length < 64 := by omega
      simp [hlow, hle, hbyte, Nat.mul_add, hj, hin]
    · simp [hlow, hbyte, Nat.mul_add]

/-- The window just stored is that of the value (R28, R193). -/
theorem window_putWindow (v x : Value) (L : Nat) : window (putWindow v L x) L = window x L := by
  apply BitVec.eq_of_getLsbD_eq
  intro j hj
  rw [getLsbD_window, getLsbD_window, getLsbD_putWindow _ _ _ _ hj]
  by_cases h : j < 8 * L <;> simp [h]

/-! ### The frame as it is received -/

section

variable (key : Word) (value : List Word) (s : State)

theorem received_key : (received key value s).key = key := by
  unfold received
  split <;> rfl

theorem received_globalReset : (received key value s).globalReset = false := by
  unfold received
  split <;> rfl

theorem received_length : (received key value s).length = BitVec.ofNat 8 value.length := by
  cases value <;> rfl

theorem received_vbuf : (received key value s).vbuf = putWindow s.vbuf value.length (valueOf value) := by
  cases value with
  | nil => exact (putWindow_zero s.vbuf _).symm
  | cons b bytes => rfl

end

/-! ### What a write leaves, whatever else differs -/

/-- What a service can change for good, and what it reads to do so (R186, R192). -/
structure SameRegisters (s t : State) : Prop where
  regs : t.regs = s.regs
  platform : t.platform = s.platform
  globalReset : t.globalReset = s.globalReset

/-- `MemWrite` of a value that the buffer holds reads only the registers, the table and `global_reset`, of what it
changes (R186 to R192). -/
theorem memWrite_sameRegisters {s t : State} (h : SameRegisters s t) (key : Word) {L : Nat} (v : Value) (hL : L ≤ 8) :
    SameRegisters (memWrite key L v s) (memWrite key L v t) := by
  have hentry : t.entry key = s.entry key := by simp only [State.entry, State.platformEntry, h.platform]
  by_cases h0 : L = 0
  · simpa only [memWrite, h0, if_true] using h
  · unfold memWrite
    rw [if_neg h0, if_neg h0, hentry]
    cases s.entry key with
    | none => exact h
    | some e =>
      simp only [pulseReset_conforming _ _ hL, spendOverlong_conforming _ _ hL, writtenPattern_conforming _ _ _ _ _ hL,
        State.updateRegister]
      split
      next => -- a writable entry: the pulse, a pattern of the table, or a register
        split
        next => exact ⟨h.regs, h.platform, rfl⟩
        next =>
          split
          next => exact ⟨h.regs, congrArg (updatePlatform key _) h.platform, h.globalReset⟩
          next => exact ⟨by rw [h.regs], h.platform, h.globalReset⟩
      next => exact h

/-! ### What FrameDecoder makes of a Word -/

section

variable {s : State}

/-- A key Word with bit 7 = 1 opens a write frame (R152). -/
theorem settle_arrived_writeKey (h : Settled s) {key : Word} (hp : s.phase = .readKey) (hk : isWriteKey key = true) :
    settle (arrived key s) = { observed (arrived key s) with key := key, phase := .getWriteLength } := by
  refine settle_of_decoderTick ?_ (Ready.settled ⟨h.selected, h.noEvent, h.noPulse⟩ rfl rfl)
  have hword : isWriteKey (arrived key s).rxWord = true := hk
  rw [decoderTick_of_ready (h.toReady.arrived key),
    decodeState_readKey (s := arrived key s) hp (rxNew_arrived key h.noWord), onKeyWord, hword]
  rfl

/-- A length Word in `GetWriteLength` is handled by the rule of that state (R154). -/
theorem decoderTick_arrived_writeLength (h : Settled s) (len : Word) (hp : s.phase = .getWriteLength) :
    decoderTick (arrived len s) = onWriteLength (arrived len s) := by
  rw [decoderTick_of_ready (h.toReady.arrived len)]
  exact decodeState_getWriteLength (s := arrived len s) hp (rxNew_arrived len h.noWord)

/-- A length Word other than 0 of a write: the value follows (R154). -/
theorem settle_arrived_writeLength (h : Settled s) {len : Word} (hp : s.phase = .getWriteLength) (hl : len ≠ 0#8) :
    settle (arrived len s) =
      { observed (arrived len s) with length := len, offset := offsetOf len, phase := .masterWrite } := by
  refine settle_of_decoderTick ?_ (Ready.settled ⟨h.selected, h.noEvent, h.noPulse⟩ rfl rfl)
  rw [decoderTick_arrived_writeLength h len hp]
  exact if_neg hl

/-- A value Word in `MasterWrite` is handled by the rule of that state (R155). -/
theorem decoderTick_arrived_value (h : Settled s) (w : Word) (hp : s.phase = .masterWrite) :
    decoderTick (arrived w s) = onValueWord (arrived w s) := by
  rw [decoderTick_of_ready (h.toReady.arrived w)]
  exact decodeState_masterWrite (s := arrived w s) hp (rxNew_arrived w h.noWord)

/-- A value Word inside the buffer is stored at the offset (R155). -/
theorem storedByte_arrived (w : Word) (ho : s.offset.toNat < 64) :
    storedByte (arrived w s) = putByte s.vbuf s.offset.toNat w :=
  if_pos ho

/-- A value Word before the last is stored, and the offset goes one byte down (R155). -/
theorem settle_arrived_value (h : Settled s) (w : Word) (hp : s.phase = .masterWrite) (ho : s.offset ≠ 0#11)
    (hin : s.offset.toNat < 64) :
    settle (arrived w s) =
      { observed (arrived w s) with vbuf := putByte s.vbuf s.offset.toNat w, offset := s.offset - 8#11 } := by
  refine settle_of_decoderTick ?_ (Ready.settled ⟨h.selected, h.noEvent, h.noPulse⟩ rfl rfl)
  rw [decoderTick_arrived_value h w hp, onValueWord, storedByte_arrived w hin]
  exact if_neg ho

end

/-! ### The service of a write frame -/

/-- A write-complete is raised, and nothing else is pending (R154, R155). -/
structure Raised (s : State) : Prop where
  selected : s.linkDesel = false
  writeComplete : s.evt = .writeDone
  noWord : rxNew s = false
  noAcceptance : txNew s = false
  emptyQueue : s.txPendingValid = false
  notLast : s.rdLast = false

/-- The tick after a raised write-complete is its service and its commit (R157, R193). -/
theorem decoderTick_raised {s : State} (h : Raised s) : decoderTick s =
    { memWrite s.key s.length.toNat (window s.vbuf s.length.toNat) { s with globalReset := false } with
      evt := .none, phase := .readKey } := by
  have hevt := h.writeComplete
  rw [decoderTick_commitWrite h.selected hevt]
  simp only [service, hevt]

/-- `n` steps take `s` to the service of a write-complete, which ends a slot: the frame, the registers and the table are
those of `t` as the service begins, and `rest` is to come (R157, R316). -/
def RunsToService (n : Nat) (s : State) (rest : List Input) (t : State) : Prop :=
  ∃ (bits : List Bool) (w : Word) (out : Bool) (sent : Word) (p : State),
    Shows n s bits ((decoderTick p).withWire (Wire.ended w rest out sent)) ∧ Raised p ∧ SameFrame t p

section

variable {s t u : State} {n m : Nat} {bits : List Bool} {rest : List Input}

theorem RunsToService.after (h : RunsToService n t rest u) (hs : Shows m s bits t) :
    RunsToService (m + n) s rest u := by
  obtain ⟨more, w, out, sent, p, hshows, hraised, hsame⟩ := h
  exact ⟨_, w, out, sent, p, hs.trans hshows, hraised, hsame⟩

theorem RunsToService.of_sameFrame (h : RunsToService n s rest t) (hsame : SameFrame u t) :
    RunsToService n s rest u := by
  obtain ⟨bits, w, out, sent, p, hshows, hraised, hp⟩ := h
  exact ⟨bits, w, out, sent, p, hshows, hraised, hsame.trans hp⟩

end

/-! ### The slots of a write frame -/

/-- A Word boundary inside a write frame: nothing is queued (R105, R152). -/
structure WriteBoundary (s : State) : Prop extends Boundary s where
  emptyQueue : s.txPendingValid = false
  notLast : s.rdLast = false

/-- A Word boundary in `MasterWrite` at which the value byte with `m` bytes below it is awaited (R155). -/
structure Receiving (m : Nat) (s : State) : Prop extends WriteBoundary s where
  masterWrite : s.phase = .masterWrite
  inBuffer : m < 8
  position : s.offset.toNat = 8 * m

section

variable {s : State} {m : Nat} {w : Word} {words : List Word} {rest : List Input}

theorem WriteBoundary.settled_spend (h : WriteBoundary s) : Settled (spend s) := { h with }

/-- A slot whose Word makes FrameDecoder move on inside the frame ends at such a boundary again (R130, R316). -/
theorem shows_writeSlot {k len : Word} {o : Offset} {b : Value} {p : Phase} (h : WriteBoundary s)
    (hword : settle (arrived w (spend s)) =
      { observed (arrived w (spend s)) with key := k, length := len, offset := o, vbuf := b, phase := p })
    (hin : s.inputs = wireWords 2 (w :: words) ++ rest) :
    ∃ (bits : List Bool) (t : State), Shows 48 s bits t ∧ t.inputs = wireWords 2 words ++ rest ∧ WriteBoundary t ∧
      t.phase = p ∧ t.offset = o ∧ SameFrame { s with key := k, length := len, vbuf := b } t := by
  obtain ⟨bits, out, sent, -, hshows⟩ := shows_slot_unqueued h.toBoundary h.emptyQueue hin
  have hshows : Shows 48 s bits ((settle (arrived w (spend s))).withWire _) := hshows
  rw [hword] at hshows
  refine ⟨bits, _, hshows, rfl, ?_, rfl, rfl, ⟨rfl, rfl, rfl, rfl, rfl⟩⟩
  exact {
    selected := h.selected, noEvent := h.noEvent, noPulse := h.noPulse, noWord := bne_self_eq_false _
    noAcceptance := bne_self_eq_false _, rxBoundary := rfl, txBoundary := rfl, emptyQueue := h.emptyQueue
    notLast := h.notLast }

/-- A slot whose Word raises the write-complete runs to its service (R154, R155, R316). -/
theorem runsToService_of_raised {len : Word} {b : Value} (h : WriteBoundary s)
    (hword : decoderTick (arrived w (spend s)) =
      { observed (arrived w (spend s)) with length := len, vbuf := b, evt := .writeDone })
    (hin : s.inputs = wireWords 2 [w] ++ rest) : RunsToService 48 s rest { s with length := len, vbuf := b } := by
  obtain ⟨bits, out, sent, -, hshows⟩ := shows_slot_unqueued h.toBoundary h.emptyQueue hin
  have hshows : Shows 48 s bits ((settle (arrived w (spend s))).withWire _) := hshows
  rw [settle, hword] at hshows
  refine ⟨bits, w, out, sent, _, hshows, ?_, ⟨rfl, rfl, rfl, rfl, rfl⟩⟩
  exact {
    selected := h.selected, writeComplete := rfl, noWord := bne_self_eq_false _
    noAcceptance := bne_self_eq_false _, emptyQueue := h.emptyQueue, notLast := h.notLast }

/-- The slot of the key (R152). -/
theorem shows_writeKey {key : Word} (h : Idle s) (hk : isWriteKey key = true)
    (hin : s.inputs = wireWords 2 (key :: words) ++ rest) :
    ∃ (bits : List Bool) (t : State), Shows 48 s bits t ∧ t.inputs = wireWords 2 words ++ rest ∧ WriteBoundary t ∧
      t.phase = .getWriteLength ∧ SameFrame { s with key := key } t := by
  have hs : WriteBoundary s := { h with }
  obtain ⟨bits, t, hshows, hint, ht, hp, -, hsame⟩ :=
    shows_writeSlot hs (settle_arrived_writeKey hs.settled_spend h.readKey hk) hin
  exact ⟨bits, t, hshows, hint, ht, hp, hsame⟩

/-- The slot of a zero length raises the write-complete at once (R154). -/
theorem runsToService_zeroLength (h : WriteBoundary s) (hp : s.phase = .getWriteLength)
    (hin : s.inputs = wireWords 2 [0#8] ++ rest) : RunsToService 48 s rest { s with length := 0#8 } :=
  runsToService_of_raised h (decoderTick_arrived_writeLength h.settled_spend 0#8 hp) hin

/-- The slot of any other length (R154). -/
theorem shows_writeLength {len : Word} (h : WriteBoundary s) (hp : s.phase = .getWriteLength) (hl : len.toNat = m + 1)
    (h8 : m < 8) (hin : s.inputs = wireWords 2 (len :: words) ++ rest) :
    ∃ (bits : List Bool) (t : State), Shows 48 s bits t ∧ t.inputs = wireWords 2 words ++ rest ∧ Receiving m t ∧
      SameFrame { s with length := len } t := by
  have hne : len ≠ 0#8 := by
    rintro rfl
    exact absurd hl (Nat.succ_ne_zero m).symm
  obtain ⟨bits, t, hshows, hint, ht, hpt, hot, hsame⟩ :=
    shows_writeSlot h (settle_arrived_writeLength h.settled_spend hp hne) hin
  have hpos : t.offset.toNat = 8 * m := by rw [hot, offsetOf_toNat len hne, hl, Nat.add_sub_cancel]
  exact ⟨bits, t, hshows, hint, { ht with masterWrite := hpt, inBuffer := h8, position := hpos }, hsame⟩

/-- The slot of the last value byte raises the write-complete (R155). -/
theorem runsToService_lastByte (h : Receiving 0 s) (hin : s.inputs = wireWords 2 [w] ++ rest) :
    RunsToService 48 s rest { s with vbuf := putByte s.vbuf 0 w } := by
  have ho : s.offset = 0#11 := BitVec.eq_of_toNat_eq h.position
  refine runsToService_of_raised h.toWriteBoundary ?_ hin
  rw [decoderTick_arrived_value h.settled_spend w h.masterWrite, onValueWord,
    storedByte_arrived (s := spend s) w (by simp [ho]), spend_offset, ho]
  exact if_pos ho

/-- The slot of any value byte before it stores the byte and awaits the next (R155). -/
theorem shows_valueByte (h : Receiving (m + 1) s) (hin : s.inputs = wireWords 2 (w :: words) ++ rest) :
    ∃ (bits : List Bool) (t : State), Shows 48 s bits t ∧ t.inputs = wireWords 2 words ++ rest ∧ Receiving m t ∧
      SameFrame { s with vbuf := putByte s.vbuf (8 * (m + 1)) w } t := by
  have hpos := h.position
  have hbuf := h.inBuffer
  have ho : s.offset ≠ 0#11 := by
    intro e
    rw [e, BitVec.toNat_ofNat] at hpos
    omega
  have hsub := toNat_sub_byte (o := s.offset) (by omega) ho
  obtain ⟨bits, t, hshows, hint, ht, hpt, hot, hsame⟩ := shows_writeSlot h.toWriteBoundary
    (settle_arrived_value h.settled_spend w h.masterWrite ho (show s.offset.toNat < 64 by omega)) hin
  have hnext : t.offset.toNat = 8 * m := by
    rw [hot, spend_offset]
    omega
  rw [← hpos]
  exact ⟨bits, t, hshows, hint,
    { ht with masterWrite := hpt.trans h.masterWrite, inBuffer := Nat.lt_of_succ_lt hbuf, position := hnext }, hsame⟩

end

/-- The slots of the last `m + 1` value bytes, by induction on `m`: they fill the window, the first received most
significant (R62, R96, R155). -/
theorem runsToService_value (rest : List Input) (m : Nat) (value : List Word) (s : State) (h : Receiving m s)
    (hv : value.length = m + 1) (hin : s.inputs = wireWords 2 value ++ rest) :
    RunsToService (48 * (m + 1)) s rest { s with vbuf := putWindow s.vbuf (m + 1) (valueOf value) } := by
  induction m generalizing s value with
  | zero =>
    obtain ⟨w, rfl⟩ := List.length_eq_one_iff.mp hv
    have hbyte : putByte s.vbuf 0 w = putWindow s.vbuf 1 (valueOf [w]) := by
      have hlast := putWindow_putByte s.vbuf w []
      rwa [List.length_nil, putWindow_zero] at hlast
    rw [← hbyte]
    exact runsToService_lastByte h hin
  | succ m ih =>
    obtain ⟨w, after, rfl⟩ := List.exists_cons_of_length_eq_add_one hv
    have hafter : after.length = m + 1 := Nat.succ_inj.mp hv
    obtain ⟨bits, t, hbyte, hint, ht, hsame⟩ := shows_valueByte h hin
    have hvbuf : putWindow t.vbuf (m + 1) (valueOf after) = putWindow s.vbuf (m + 1 + 1) (valueOf (w :: after)) := by
      rw [hsame.vbuf, ← hafter]
      exact putWindow_putByte s.vbuf w after
    rw [Nat.mul_succ, Nat.add_comm]
    exact ((ih after t ht hafter hint).after hbyte).of_sameFrame
      ⟨hsame.key, hsame.length, hvbuf, hsame.regs, hsame.platform⟩

/-- The slots of a whole write frame: the key, the length, and the value where there is one; the frame is serviced as it
is received (R95, R96, R152, R154, R155). -/
theorem runsToService_writeFrame {s : State} {key : Word} {value : List Word} {rest : List Input} (h : Idle s)
    (hk : isWriteKey key = true) (h8 : value.length ≤ 8) (hin : s.inputs = wireWords 2 (writeWords key value) ++ rest) :
    RunsToService (48 * (2 + value.length)) s rest (received key value s) := by
  obtain ⟨bits, t, hkey, hint, ht, hp, hsame⟩ := shows_writeKey h hk hin
  cases value with
  | nil => exact ((runsToService_zeroLength ht hp hint).after hkey).of_sameFrame { hsame with length := rfl }
  | cons b bytes =>
    have hlen : (BitVec.ofNat 8 (b :: bytes).length).toNat = bytes.length + 1 := by
      rw [BitVec.toNat_ofNat, List.length_cons]
      exact Nat.mod_eq_of_lt (Nat.lt_of_le_of_lt h8 (by decide))
    obtain ⟨bits', u, hlength, hinu, hu, hsame'⟩ := shows_writeLength ht hp hlen h8 hint
    have hvalue := runsToService_value rest bytes.length (b :: bytes) u hu rfl hinu
    have hvbuf : u.vbuf = s.vbuf := hsame'.vbuf.trans hsame.vbuf
    have hsteps : 48 * (2 + (b :: bytes).length) = 48 + 48 + 48 * (bytes.length + 1) := by
      rw [List.length_cons]
      omega
    rw [hsteps]
    exact (hvalue.after (hkey.trans hlength)).of_sameFrame
      ⟨hsame'.key.trans hsame.key, hsame'.length, by rw [hvbuf]; rfl, hsame'.regs.trans hsame.regs,
        hsame'.platform.trans hsame.platform⟩

/-! ### The statement -/

/-- The service of a write frame as it was received leaves the registers of its meaning (R157, R186, R193). -/
theorem decoderTick_received {s p : State} {key : Word} {value : List Word} (h : Raised p)
    (hsame : SameFrame (received key value s) p) (h8 : value.length ≤ 8) :
    SameRegisters (writeFrame key value (memWrite key value.length (valueOf value)) s) (decoderTick p) := by
  have hlen : p.length.toNat = value.length := by
    rw [hsame.length, received_length, BitVec.toNat_ofNat]
    omega
  have hstart : SameRegisters (received key value s) { p with globalReset := false } :=
    ⟨hsame.regs, hsame.platform, (received_globalReset key value s).symm⟩
  have hwrite : memWrite p.key p.length.toNat (window p.vbuf p.length.toNat) =
      memWrite key value.length (valueOf value) := by
    rw [hlen, hsame.key, received_key, hsame.vbuf, received_vbuf, window_putWindow, memWrite_window]
  obtain ⟨o, rs, ts, l, hend⟩ := endWrite_eq (memWrite key value.length (valueOf value) (received key value s))
  obtain ⟨hregs, hplatform, hpulse⟩ := memWrite_sameRegisters hstart key (valueOf value) h8
  rw [writeFrame_memWrite, hend, decoderTick_raised h, hwrite]
  exact ⟨hregs, hplatform, hpulse⟩

/-- What the service of a write frame leaves of the decoder and of the queue (R157). -/
theorem decoderTick_raised_done {s : State} (h : Raised s) :
    (decoderTick s).key = s.key ∧ (decoderTick s).phase = .readKey ∧ (decoderTick s).evt = .none ∧
      rxNew (decoderTick s) = false ∧ txNew (decoderTick s) = false ∧ (decoderTick s).linkDesel = false ∧
      (decoderTick s).txPendingValid = false ∧ (decoderTick s).rdLast = false := by
  obtain ⟨g, r, ps, d, hmem, -⟩ :=
    memWrite_eq s.key s.length.toNat (window s.vbuf s.length.toNat) { s with globalReset := false }
  rw [decoderTick_raised h, hmem]
  exact ⟨rfl, rfl, rfl, h.noWord, h.noAcceptance, h.selected, h.emptyQueue, h.notLast⟩

/-- Settles O57: the slots of the frame up to its service, which does to the registers what its meaning does. -/
theorem writeFrameOverTheWire : Obligations.WriteFrameOverTheWire := by
  intro s key value rest h hk h8 hin
  obtain ⟨bits, w, out, sent, p, ⟨hrun, -⟩, hraised, hsame⟩ := runsToService_writeFrame h hk h8 hin
  obtain ⟨hregs, hplatform, hpulse⟩ := decoderTick_received hraised hsame h8
  obtain ⟨hkey, hphase, hevt, hrx, htx, hsel, hqueue, hlast⟩ := decoderTick_raised_done hraised
  exact ⟨_, _, hrun, exec_decodeWrite key value s hk, rfl, hregs, hplatform, hpulse,
    hkey.trans (hsame.key.trans (received_key key value s)), hphase, hevt, hrx, htx, hsel, rfl, rfl, hqueue, hlast⟩

end Sys2Proof.Machine
end
